-- ==== Sys2Proof/Word.lean ====
section
/-! DEFINITION. The words and numbers of the TQ48: a word is 16 bits (Table I-2), and ports, locks and
descriptors are numbered P0 to P3, L0 to L31 and D0 to D15 (spec/00_scope.md, "Numbering"). -/

namespace Sys2Proof

/-- The unit of the store, of the data bus and of every register (Table I-2). -/
abbrev Word := BitVec 16

/-- A count of ticks, 0 to 255 (leases, patience, hold limits). -/
abbrev Ticks := BitVec 8

/-- A host port, P0 to P3. -/
abbrev PortId := Fin 4

/-- A hardware lock, L0 to L31. -/
abbrev LockId := Fin 32

/-- A region descriptor, D0 to D15. -/
abbrev DescId := Fin 16

/-- The four ports in number order. -/
def allPorts : List PortId := [0, 1, 2, 3]

/-- The 32 locks in number order. -/
def allLocks : List LockId :=
  [0, 1, 2, 3, 4, 5, 6, 7, 8, 9, 10, 11, 12, 13, 14, 15,
   16, 17, 18, 19, 20, 21, 22, 23, 24, 25, 26, 27, 28, 29, 30, 31]

/-- The 16 descriptors in number order. -/
def allDescs : List DescId :=
  [0, 1, 2, 3, 4, 5, 6, 7, 8, 9, 10, 11, 12, 13, 14, 15]

end Sys2Proof
end

