-- ==== Sys2Proof/Config.lean ====
section
/-! DEFINITION. The fixed limits of the part (each with the rule that states it) and the one value of the
reset state that the spec leaves to the board, the strap setting. -/

namespace Sys2Proof.Config

/-- HOLD_MAX (R13). -/
def holdMax : Nat := 8

/-- The words of an inbound queue (R119). -/
def queueWords : Nat := 32

/-- The most words a staging buffer holds (R116). -/
def stagingMax : Nat := 6

/-- The most records a fault queue holds (R177). -/
def faultQueueMax : Nat := 4

/-- The first unbacked store address (R93, R94). -/
def storeWords : Nat := 0x8000

/-- The most words a copy job moves (R143). -/
def copyCountMax : Nat := 4095

/-- The longest tick period in microseconds (R36). -/
def tickMax : Nat := 4095

/-- The configuration port of the state right after reset. DESIGN CHOICE, unsafe: R183 takes the number
from the strap pins, which the board sets; the model's reset state has both straps low (log entry 2). -/
def resetStraps : PortId := 0

end Sys2Proof.Config
end

