-- ==== Sys2Proof/Syntax.lean ====
section
/-! DEFINITION. The commands the part takes: one constructor of Instr per row of spec/opcode_table.json.
Window cycles name the port whose host gives them; events of the part itself name the record they reach. -/

namespace Sys2Proof

/-- The 51 assigned registers of a port's window, in the order of Table 10-3. -/
inductive Reg where
  | portId | portState | peers | intCause | intMask | faultHead | faultAddr | faultLock | faultCtrl
  | ptr | step | opnd | data | xchg | fadd
  | lockSel | lockCmd | lockResult | waitState | heldLo | heldHi | revokedLo | revokedHi
  | lockView | lockWaiters | lockCfg
  | descSel | descBase | descAttr | descRights | descCmd
  | outData | outCmd | sendResult | inHead | inData | inCtrl
  | copySrc | copyDst | copyCount | copyNotice | copyCmd | copyStatus | copyMoved
  | tick | holdLimit | failWord | orphan | ranks | defaultRights | portCmd
  deriving DecidableEq, Repr

/-- What a cycle does at its register: a read, or a write of the sampled word (R204). -/
inductive CycleOp where
  | read
  | write (w : Word)
  deriving DecidableEq, Repr

/-- A bus cycle as the part samples it: A5 to A0 (half the byte offset) and the strobe with, for a write,
D15 to D0 (R204, Table 10-1). -/
structure BusCycle where
  addr : BitVec 6
  op : CycleOp
  deriving DecidableEq, Repr

/-- The commands and events of the part. `p` is the port of the cycle or of the event. -/
inductive Instr where
  -- Chapter 1: LOCK_CMD
  | take (p : PortId) (l : LockId)
  | wait (p : PortId) (l : LockId) (patience : Ticks)
  | release (p : PortId) (l : LockId)
  | cancel (p : PortId) (l : LockId)
  | renew (p : PortId) (l : LockId)
  | forceRelease (p : PortId) (l : LockId)
  -- Chapter 2: the timebase and the expiries at the lock table
  | tickEvent
  | leaseExpiry (l : LockId)
  | patienceExpiry (l : LockId) (p : PortId)
  -- configuration registers (Chapters 2, 3 and 9)
  | tickWrite (p : PortId) (w : Word)
  | holdLimitWrite (p : PortId) (w : Word)
  | failWordWrite (p : PortId) (w : Word)
  | orphanWrite (p : PortId) (w : Word)
  | ranksWrite (p : PortId) (w : Word)
  | defaultRightsWrite (p : PortId) (w : Word)
  | lockCfgWrite (p : PortId) (w : Word)
  -- selections, descriptor staging and DESC_CMD (Chapter 3)
  | lockSelWrite (p : PortId) (w : Word)
  | descSelWrite (p : PortId) (w : Word)
  | descBaseWrite (p : PortId) (w : Word)
  | descAttrWrite (p : PortId) (w : Word)
  | descRightsWrite (p : PortId) (w : Word)
  | load (p : PortId)
  | commit (p : PortId)
  -- the access engine and the store arbiter (Chapter 5)
  | ptrWrite (p : PortId) (w : Word)
  | opndWrite (p : PortId) (w : Word)
  | stepWrite (p : PortId) (w : Word)
  | dataRead (p : PortId)
  | dataWrite (p : PortId) (w : Word)
  | xchgRead (p : PortId)
  | faddRead (p : PortId)
  | rotationGrant
  -- messages (Chapter 6)
  | outDataWrite (p : PortId) (w : Word)
  | send (p : PortId) (dest : PortId) (urgent hold : Bool) (tag : BitVec 8)
  | discard (p : PortId)
  | inHeadRead (p : PortId)
  | inDataRead (p : PortId)
  | pop (p : PortId)
  | flush (p : PortId)
  | holdExpiry (q : PortId) (p : PortId)
  -- the copy engine (Chapter 7)
  | copySrcWrite (p : PortId) (w : Word)
  | copyDstWrite (p : PortId) (w : Word)
  | copyCountWrite (p : PortId) (w : Word)
  | copyNoticeWrite (p : PortId) (w : Word)
  | start (p : PortId)
  | copyCancel (p : PortId)
  | sourceRead
  | destinationWrite
  -- causes, revoked set and fault queue (Chapters 1 and 8)
  | intCauseWrite (p : PortId) (w : Word)
  | intMaskWrite (p : PortId) (w : Word)
  | revokedLoWrite (p : PortId) (w : Word)
  | revokedHiWrite (p : PortId) (w : Word)
  | faultPop (p : PortId)
  | clearOverrun (p : PortId)
  -- the window (Chapter 10); a register cycle without a row of its own, read or write
  | registerWrite (p : PortId) (r : Reg) (op : CycleOp)
  | unassignedAccess (p : PortId) (addr : BitVec 6) (op : CycleOp)
  | detachedWindowCycle (p : PortId) (addr : BitVec 6) (op : CycleOp)
  -- detach, reattach and teardown (Chapter 9)
  | detach (p : PortId) (target : PortId)
  | leave (p : PortId)
  | join (p : PortId)
  | portResetAssert (p : PortId)
  | portResetRelease (p : PortId)
  | withdrawal (p : PortId)
  | releaseEvent (p : PortId) (l : LockId)
  | messageUnitTeardown (p : PortId)
  | copyEngineTeardown (p : PortId)
  | completionEvent (p : PortId)
  | deviceReset
  | resetRelease (cfgp1 cfgp0 : Bool)
  -- the end of a bus cycle (Chapter 10)
  | cycleEnd (p : PortId)
  deriving DecidableEq, Repr

end Sys2Proof
end

