-- ==== Sys2Proof/WellFormed.lean ====
section
/-! DEFINITION. Which terms of Instr are commands of the table: a window cycle that has a row of its own in
spec/opcode_table.json is spelled by that row's constructor and not by REGISTER_WRITE, UNASSIGNED_ACCESS names
an unassigned offset (R210), and DETACHED_WINDOW_CYCLE leaves out the three cycles R192 takes. -/

namespace Sys2Proof

/-- The cycles of an attached window that have a row of their own in the table: everything else at an assigned
register is a REGISTER_WRITE (a write its access class answers, a command code that names no command, or a
plain register read; log entry 7). The command codes are those of Tables 10-4 and 10-5. -/
def hasOwnRow (r : Reg) (op : CycleOp) : Bool :=
  match r, op with
  | .lockCmd, .write w => w.extractLsb' 13 3 != 0 && w.extractLsb' 13 3 != 7
  | .descCmd, .write w => w.extractLsb' 0 2 == 1 || w.extractLsb' 0 2 == 2
  | .outCmd, .write w => w.extractLsb' 14 2 == 1 || w.extractLsb' 14 2 == 2
  | .inCtrl, .write w => w.extractLsb' 0 2 == 1 || w.extractLsb' 0 2 == 2
  | .copyCmd, .write w => w.extractLsb' 0 2 == 1 || w.extractLsb' 0 2 == 2
  | .faultCtrl, .write w => w.extractLsb' 0 2 == 1 || w.extractLsb' 0 2 == 2
  | .portState, .write w => w.extractLsb' 0 2 == 1 || w.extractLsb' 0 2 == 2
  | .portCmd, .write w => w.extractLsb' 14 2 == 1
  | .data, _ => true
  | .xchg, .read => true
  | .fadd, .read => true
  | .inHead, .read => true
  | .inData, .read => true
  | .intCause, .write _ => true
  | .intMask, .write _ => true
  | .ptr, .write _ => true
  | .step, .write _ => true
  | .opnd, .write _ => true
  | .lockSel, .write _ => true
  | .revokedLo, .write _ => true
  | .revokedHi, .write _ => true
  | .lockCfg, .write _ => true
  | .descSel, .write _ => true
  | .descBase, .write _ => true
  | .descAttr, .write _ => true
  | .descRights, .write _ => true
  | .outData, .write _ => true
  | .copySrc, .write _ => true
  | .copyDst, .write _ => true
  | .copyCount, .write _ => true
  | .copyNotice, .write _ => true
  | .tick, .write _ => true
  | .holdLimit, .write _ => true
  | .failWord, .write _ => true
  | .orphan, .write _ => true
  | .ranks, .write _ => true
  | .defaultRights, .write _ => true
  | _, _ => false

/-- The cycles a detached window takes (R192): a read of PORT_ID (word address 0), a read of PORT_STATE (word
address 1) and a write of JOIN to PORT_STATE. -/
def takenWhileDetached (addr : BitVec 6) (op : CycleOp) : Bool :=
  match op with
  | .read => addr == 0 || addr == 1
  | .write w => addr == 1 && w.extractLsb' 0 2 == 2

/-- A term of Instr that spells a command of the table by the row it belongs to. -/
def wellFormed : Instr → Bool
  | .registerWrite _ r op => !hasOwnRow r op
  | .unassignedAccess _ addr _ => decide (0x33 ≤ addr.toNat)
  | .detachedWindowCycle _ addr op => !takenWhileDetached addr op
  | _ => true

end Sys2Proof
end

