-- ==== Sys2Proof/Decode.lean ====
section
/-! DEFINITION. The window map (Table 10-3), the fields of the words a host writes (Tables 10-4 and 10-5), and the
reading of a sampled bus cycle of an attached window as the command it gives, with the encoder beside it.
No row of spec/opcode_table.json carries bits, so decodeTableWord answers none. -/

namespace Sys2Proof

/-- The assigned registers in offset order (Table 10-3): the register at byte offset 2n is entry n. -/
def windowMap : List Reg :=
  [.portId, .portState, .peers, .intCause, .intMask, .faultHead, .faultAddr, .faultLock, .faultCtrl,
   .ptr, .step, .opnd, .data, .xchg, .fadd,
   .lockSel, .lockCmd, .lockResult, .waitState, .heldLo, .heldHi, .revokedLo, .revokedHi,
   .lockView, .lockWaiters, .lockCfg]
  ++ [.descSel, .descBase, .descAttr, .descRights, .descCmd,
   .outData, .outCmd, .sendResult, .inHead, .inData, .inCtrl,
   .copySrc, .copyDst, .copyCount, .copyNotice, .copyCmd, .copyStatus, .copyMoved,
   .tick, .holdLimit, .failWord, .orphan, .ranks, .defaultRights, .portCmd]

/-- The register a word address decodes to; none at the unassigned offsets 0x66 to 0x7E (R210). -/
def regAt (addr : BitVec 6) : Option Reg := windowMap[addr.toNat]?

/-- The byte offset of a register (Table 10-3). -/
def regOffset : Reg → Nat
  | .portId => 0x00 | .portState => 0x02 | .peers => 0x04 | .intCause => 0x06 | .intMask => 0x08
  | .faultHead => 0x0A | .faultAddr => 0x0C | .faultLock => 0x0E | .faultCtrl => 0x10
  | .ptr => 0x12 | .step => 0x14 | .opnd => 0x16 | .data => 0x18 | .xchg => 0x1A | .fadd => 0x1C
  | .lockSel => 0x1E | .lockCmd => 0x20 | .lockResult => 0x22 | .waitState => 0x24
  | .heldLo => 0x26 | .heldHi => 0x28 | .revokedLo => 0x2A | .revokedHi => 0x2C
  | .lockView => 0x2E | .lockWaiters => 0x30 | .lockCfg => 0x32
  | .descSel => 0x34 | .descBase => 0x36 | .descAttr => 0x38 | .descRights => 0x3A | .descCmd => 0x3C
  | .outData => 0x3E | .outCmd => 0x40 | .sendResult => 0x42 | .inHead => 0x44 | .inData => 0x46
  | .inCtrl => 0x48 | .copySrc => 0x4A | .copyDst => 0x4C | .copyCount => 0x4E | .copyNotice => 0x50
  | .copyCmd => 0x52 | .copyStatus => 0x54 | .copyMoved => 0x56
  | .tick => 0x58 | .holdLimit => 0x5A | .failWord => 0x5C | .orphan => 0x5E | .ranks => 0x60
  | .defaultRights => 0x62 | .portCmd => 0x64

/-- The word address of a register on A5 to A0: half its byte offset (Table 10-1). -/
def regAddr (r : Reg) : BitVec 6 := BitVec.ofNat 6 (regOffset r / 2)

/-- A cycle at a register. -/
def cycleAt (r : Reg) (op : CycleOp) : BusCycle := ⟨regAddr r, op⟩

/-! ### Fields of written words -/

/-- LOCK_CMD 15–13 and OUT_CMD, PORT_CMD 15–14, and the other command registers' 1–0. -/
def lockCode (w : Word) : BitVec 3 := w.extractLsb' 13 3
/-- OUT_CMD and PORT_CMD: command in bits 15–14. -/
def highCode (w : Word) : BitVec 2 := w.extractLsb' 14 2
/-- DESC_CMD, IN_CTRL, COPY_CMD, FAULT_CTRL and PORT_STATE: command in bits 1–0. -/
def lowCode (w : Word) : BitVec 2 := w.extractLsb' 0 2

/-- A two-bit field as a port number. -/
def portOf (b : BitVec 2) : PortId := ⟨b.toNat, b.isLt⟩
/-- A five-bit field as a lock number. -/
def lockOf (b : BitVec 5) : LockId := ⟨b.toNat, b.isLt⟩
/-- A four-bit field as a descriptor number. -/
def descOf (b : BitVec 4) : DescId := ⟨b.toNat, b.isLt⟩

/-- LOCK_CMD 12–8. -/
def lockCmdLock (w : Word) : LockId := lockOf (w.extractLsb' 8 5)
/-- LOCK_CMD 7–0. -/
def lockCmdPatience (w : Word) : Ticks := w.extractLsb' 0 8

/-- OUT_CMD 9–8. -/
def sendDest (w : Word) : PortId := portOf (w.extractLsb' 8 2)
/-- OUT_CMD 13: URGENT when one. -/
def sendUrgent (w : Word) : Bool := w.getLsbD 13
/-- OUT_CMD 12. -/
def sendHold (w : Word) : Bool := w.getLsbD 12
/-- OUT_CMD 7–0. -/
def sendTag (w : Word) : BitVec 8 := w.extractLsb' 0 8

/-- PORT_CMD 1–0. -/
def portCmdPort (w : Word) : PortId := portOf (w.extractLsb' 0 2)

/-! ### The words a command is written as -/

/-- A bit of a layout. -/
def bit (b : Bool) : BitVec 1 := BitVec.ofBool b

/-- A LOCK_CMD word: command, lock, patience. -/
def lockCmdWord (code : BitVec 3) (l : LockId) (patience : Ticks) : Word :=
  code ++ BitVec.ofNat 5 l.val ++ patience

/-- An OUT_CMD SEND word: command 1, class, hold flag, two empty bits, destination, tag. -/
def sendWord (dest : PortId) (urgent hold : Bool) (tag : BitVec 8) : Word :=
  (1 : BitVec 2) ++ bit urgent ++ bit hold ++ (0 : BitVec 2) ++ BitVec.ofNat 2 dest.val ++ tag

/-- An OUT_CMD DISCARD word. -/
def discardWord : Word := 0x8000

/-- A PORT_CMD DETACH word: command 1, port. -/
def detachWord (target : PortId) : Word :=
  (1 : BitVec 2) ++ (0 : BitVec 12) ++ BitVec.ofNat 2 target.val

/-- The bus cycle that gives a window command to an attached window, with the bits that no field of the
command uses zero; none for an event that no window cycle gives, and for a cycle of a detached window. -/
def encodeCycle : Instr → Option (PortId × BusCycle)
  | .take p l => some (p, cycleAt .lockCmd (.write (lockCmdWord 1 l 0)))
  | .wait p l n => some (p, cycleAt .lockCmd (.write (lockCmdWord 2 l n)))
  | .release p l => some (p, cycleAt .lockCmd (.write (lockCmdWord 3 l 0)))
  | .cancel p l => some (p, cycleAt .lockCmd (.write (lockCmdWord 4 l 0)))
  | .renew p l => some (p, cycleAt .lockCmd (.write (lockCmdWord 5 l 0)))
  | .forceRelease p l => some (p, cycleAt .lockCmd (.write (lockCmdWord 6 l 0)))
  | .tickWrite p w => some (p, cycleAt .tick (.write w))
  | .holdLimitWrite p w => some (p, cycleAt .holdLimit (.write w))
  | .failWordWrite p w => some (p, cycleAt .failWord (.write w))
  | .orphanWrite p w => some (p, cycleAt .orphan (.write w))
  | .ranksWrite p w => some (p, cycleAt .ranks (.write w))
  | .defaultRightsWrite p w => some (p, cycleAt .defaultRights (.write w))
  | .lockCfgWrite p w => some (p, cycleAt .lockCfg (.write w))
  | .lockSelWrite p w => some (p, cycleAt .lockSel (.write w))
  | .descSelWrite p w => some (p, cycleAt .descSel (.write w))
  | .descBaseWrite p w => some (p, cycleAt .descBase (.write w))
  | .descAttrWrite p w => some (p, cycleAt .descAttr (.write w))
  | .descRightsWrite p w => some (p, cycleAt .descRights (.write w))
  | .load p => some (p, cycleAt .descCmd (.write 1))
  | .commit p => some (p, cycleAt .descCmd (.write 2))
  | .ptrWrite p w => some (p, cycleAt .ptr (.write w))
  | .opndWrite p w => some (p, cycleAt .opnd (.write w))
  | .stepWrite p w => some (p, cycleAt .step (.write w))
  | .dataRead p => some (p, cycleAt .data .read)
  | .dataWrite p w => some (p, cycleAt .data (.write w))
  | .xchgRead p => some (p, cycleAt .xchg .read)
  | .faddRead p => some (p, cycleAt .fadd .read)
  | .outDataWrite p w => some (p, cycleAt .outData (.write w))
  | .send p d u h t => some (p, cycleAt .outCmd (.write (sendWord d u h t)))
  | .discard p => some (p, cycleAt .outCmd (.write discardWord))
  | .inHeadRead p => some (p, cycleAt .inHead .read)
  | .inDataRead p => some (p, cycleAt .inData .read)
  | .pop p => some (p, cycleAt .inCtrl (.write 1))
  | .flush p => some (p, cycleAt .inCtrl (.write 2))
  | .copySrcWrite p w => some (p, cycleAt .copySrc (.write w))
  | .copyDstWrite p w => some (p, cycleAt .copyDst (.write w))
  | .copyCountWrite p w => some (p, cycleAt .copyCount (.write w))
  | .copyNoticeWrite p w => some (p, cycleAt .copyNotice (.write w))
  | .start p => some (p, cycleAt .copyCmd (.write 1))
  | .copyCancel p => some (p, cycleAt .copyCmd (.write 2))
  | .intCauseWrite p w => some (p, cycleAt .intCause (.write w))
  | .intMaskWrite p w => some (p, cycleAt .intMask (.write w))
  | .revokedLoWrite p w => some (p, cycleAt .revokedLo (.write w))
  | .revokedHiWrite p w => some (p, cycleAt .revokedHi (.write w))
  | .faultPop p => some (p, cycleAt .faultCtrl (.write 1))
  | .clearOverrun p => some (p, cycleAt .faultCtrl (.write 2))
  | .registerWrite p r op => some (p, cycleAt r op)
  | .unassignedAccess p addr op => some (p, ⟨addr, op⟩)
  | .detach p t => some (p, cycleAt .portCmd (.write (detachWord t)))
  | .leave p => some (p, cycleAt .portState (.write 1))
  | .join p => some (p, cycleAt .portState (.write 2))
  | .tickEvent => none
  | .leaseExpiry _ => none
  | .patienceExpiry _ _ => none
  | .rotationGrant => none
  | .holdExpiry _ _ => none
  | .sourceRead => none
  | .destinationWrite => none
  | .detachedWindowCycle _ _ _ => none
  | .portResetAssert _ => none
  | .portResetRelease _ => none
  | .withdrawal _ => none
  | .releaseEvent _ _ => none
  | .messageUnitTeardown _ => none
  | .copyEngineTeardown _ => none
  | .completionEvent _ => none
  | .deviceReset => none
  | .resetRelease _ _ => none
  | .cycleEnd _ => none

/-- The command that a write of `w` to the register `r` gives in an attached window (Tables 10-3 to 10-5). -/
def decodeWrite (p : PortId) (r : Reg) (w : Word) : Instr :=
  match r with
  | .lockCmd =>
    match lockCode w with
    | 1 => .take p (lockCmdLock w)
    | 2 => .wait p (lockCmdLock w) (lockCmdPatience w)
    | 3 => .release p (lockCmdLock w)
    | 4 => .cancel p (lockCmdLock w)
    | 5 => .renew p (lockCmdLock w)
    | 6 => .forceRelease p (lockCmdLock w)
    | _ => .registerWrite p .lockCmd (.write w)
  | .descCmd =>
    match lowCode w with
    | 1 => .load p
    | 2 => .commit p
    | _ => .registerWrite p .descCmd (.write w)
  | .outCmd =>
    match highCode w with
    | 1 => .send p (sendDest w) (sendUrgent w) (sendHold w) (sendTag w)
    | 2 => .discard p
    | _ => .registerWrite p .outCmd (.write w)
  | .inCtrl =>
    match lowCode w with
    | 1 => .pop p
    | 2 => .flush p
    | _ => .registerWrite p .inCtrl (.write w)
  | .copyCmd =>
    match lowCode w with
    | 1 => .start p
    | 2 => .copyCancel p
    | _ => .registerWrite p .copyCmd (.write w)
  | .faultCtrl =>
    match lowCode w with
    | 1 => .faultPop p
    | 2 => .clearOverrun p
    | _ => .registerWrite p .faultCtrl (.write w)
  | .portState =>
    match lowCode w with
    | 1 => .leave p
    | 2 => .join p
    | _ => .registerWrite p .portState (.write w)
  | .portCmd =>
    match highCode w with
    | 1 => .detach p (portCmdPort w)
    | _ => .registerWrite p .portCmd (.write w)
  | .tick => .tickWrite p w
  | .holdLimit => .holdLimitWrite p w
  | .failWord => .failWordWrite p w
  | .orphan => .orphanWrite p w
  | .ranks => .ranksWrite p w
  | .defaultRights => .defaultRightsWrite p w
  | .lockCfg => .lockCfgWrite p w
  | .lockSel => .lockSelWrite p w
  | .descSel => .descSelWrite p w
  | .descBase => .descBaseWrite p w
  | .descAttr => .descAttrWrite p w
  | .descRights => .descRightsWrite p w
  | .ptr => .ptrWrite p w
  | .opnd => .opndWrite p w
  | .step => .stepWrite p w
  | .data => .dataWrite p w
  | .outData => .outDataWrite p w
  | .copySrc => .copySrcWrite p w
  | .copyDst => .copyDstWrite p w
  | .copyCount => .copyCountWrite p w
  | .copyNotice => .copyNoticeWrite p w
  | .intCause => .intCauseWrite p w
  | .intMask => .intMaskWrite p w
  | .revokedLo => .revokedLoWrite p w
  | .revokedHi => .revokedHiWrite p w
  | .portId => .registerWrite p .portId (.write w)
  | .peers => .registerWrite p .peers (.write w)
  | .faultHead => .registerWrite p .faultHead (.write w)
  | .faultAddr => .registerWrite p .faultAddr (.write w)
  | .faultLock => .registerWrite p .faultLock (.write w)
  | .xchg => .registerWrite p .xchg (.write w)
  | .fadd => .registerWrite p .fadd (.write w)
  | .lockResult => .registerWrite p .lockResult (.write w)
  | .waitState => .registerWrite p .waitState (.write w)
  | .heldLo => .registerWrite p .heldLo (.write w)
  | .heldHi => .registerWrite p .heldHi (.write w)
  | .lockView => .registerWrite p .lockView (.write w)
  | .lockWaiters => .registerWrite p .lockWaiters (.write w)
  | .sendResult => .registerWrite p .sendResult (.write w)
  | .inHead => .registerWrite p .inHead (.write w)
  | .inData => .registerWrite p .inData (.write w)
  | .copyStatus => .registerWrite p .copyStatus (.write w)
  | .copyMoved => .registerWrite p .copyMoved (.write w)

/-- The command that a read of the register `r` gives in an attached window. -/
def decodeRead (p : PortId) (r : Reg) : Instr :=
  match r with
  | .data => .dataRead p
  | .xchg => .xchgRead p
  | .fadd => .faddRead p
  | .inHead => .inHeadRead p
  | .inData => .inDataRead p
  | r => .registerWrite p r .read

/-- The command that a sampled bus cycle gives in an attached window; total on every cycle (R204, R210). -/
def decodeCycle (p : PortId) (c : BusCycle) : Instr :=
  match regAt c.addr, c.op with
  | none, op => .unassignedAccess p c.addr op
  | some r, .read => decodeRead p r
  | some r, .write w => decodeWrite p r w

/-- No row of spec/opcode_table.json gives bits (98_reader.md: n_rows_with_fixed 0, n_rows_with_fields 0), so a
word of the table spells no command. -/
def decodeTableWord (_nbits _w : Nat) : Option Instr := none

end Sys2Proof
end

