-- ==== Sys2Proof/Machine/State.lean ====
section
/-! DEFINITION. The state of the TQ48 as plain data: every record, register, queue and pin that the spec gives the
part, with its reset value, and the queue of commands that wait. The inventory's State section lists each field
with the rule that names it. -/

namespace Sys2Proof.Machine

/-! ### Countdowns (R38) -/

/-- A countdown of Table 2-1. `stopped`: none runs. `running n`: n ticks remain (1 to 255). `due`: it reached 0
at a tick event and its expiry has not been taken yet (the model's own mark: the expiry is an event of its own,
log entry 5). -/
inductive Countdown where
  | stopped
  | running (n : Ticks)
  | due
  deriving DecidableEq, Repr

/-! ### The lock table (Chapter 1) -/

/-- How a new waiter entry is placed (R6, R7). -/
inductive LockPolicy where
  | arrival | rank
  deriving DecidableEq, Repr

/-- The state of a lock; the holder is present exactly in HELD (R2). -/
inductive LockState where
  | free
  | held (holder : PortId)
  | orphaned
  deriving DecidableEq, Repr

/-- The kind of a waiter entry and of a request record (R3, R9). -/
inductive WaitKind where
  | explicit | claim
  deriving DecidableEq, Repr

/-- A waiter entry (R3). -/
structure Waiter where
  port : PortId
  kind : WaitKind
  patience : Countdown
  rank : BitVec 2
  deriving DecidableEq, Repr

/-- A lock record (R1, Table 1-1). -/
structure LockRecord where
  state : LockState
  policy : LockPolicy
  leasePeriod : Ticks
  lease : Countdown
  waiters : List Waiter
  deriving DecidableEq, Repr

/-- A port's request record, read in WAIT_STATE (R9). -/
inductive RequestRecord where
  | idle
  | waiting (l : LockId) (k : WaitKind)
  | granted (l : LockId) (k : WaitKind)
  | timedOut (l : LockId) (k : WaitKind)
  | cancelled (l : LockId) (k : WaitKind)
  deriving DecidableEq, Repr

/-- The outcomes of lock commands (Table 1-4), and NONE. -/
inductive LockOutcome where
  | none | granted | busy | pending | released | renewed | cancelled | forced | notHeld
  | refusedAlreadyHeld | refusedNotHolder | refusedRequestPending | refusedNoRequest
  | refusedHoldLimit | refusedPrivilege
  deriving DecidableEq, Repr

/-- LOCK_RESULT (R15). -/
structure LockResult where
  outcome : LockOutcome
  lock : LockId
  deriving DecidableEq, Repr

/-- The lock table's records of one port: its request record, its revoked set (bit n is Ln, R14), LOCK_SEL (R26)
and LOCK_RESULT (R15). -/
structure LockPortRecord where
  request : RequestRecord
  revoked : BitVec 32
  sel : LockId
  result : LockResult
  deriving DecidableEq, Repr

/-! ### The region table (Chapter 3) -/

/-- A region descriptor (Table 3-1), each field in the encoding the host wrote (R56, Table 10-4); `rights` is
laid out as DESC_RIGHTS. The same structure is a table entry and a staging copy. -/
structure Descriptor where
  enabled : Bool
  base : Word
  sizeCode : BitVec 4
  rights : BitVec 8
  guardPresent : Bool
  guardLock : BitVec 5
  scopeAll : Bool
  policyClaim : Bool
  deriving DecidableEq, Repr

/-- DESC_SEL and the staging copy of one port (R55, R56). -/
structure RegionPortRecord where
  sel : DescId
  staging : Descriptor
  deriving DecidableEq, Repr

/-! ### Store accesses (Chapters 4 and 5) -/

/-- The access types of Table 3-2 and of fault records (R72). -/
inductive AccessType where
  | read | write | xchg | fadd
  deriving DecidableEq, Repr

/-- A host store access with its write word, which a WRITE alone carries (R99, Table 4-1). -/
inductive HostAccess where
  | read
  | write (w : Word)
  | xchg
  | fadd
  deriving DecidableEq, Repr

/-- The held-access record of a claim (R79, Table 4-1). -/
structure HeldAccess where
  access : HostAccess
  address : Word
  lock : LockId
  desc : DescId
  deriving DecidableEq, Repr

/-- An access engine (Table 5-1); STEP is a signed byte (R98). -/
structure Engine where
  ptr : Word
  step : BitVec 8
  opnd : Word
  request : Option HostAccess
  deriving DecidableEq, Repr

/-- The five requesters of the store arbiter (R106). -/
inductive Requester where
  | port (p : PortId)
  | copyEngine
  deriving DecidableEq, Repr

/-! ### Messages (Chapter 6) -/

/-- The class of a message (R114). -/
inductive MsgClass where
  | normal | urgent
  deriving DecidableEq, Repr

/-- The origin of a message (R114). -/
inductive MsgOrigin where
  | host | copy
  deriving DecidableEq, Repr

/-- A message (Table 6-1); its length is the number of its payload words. -/
structure Message where
  sender : PortId
  cls : MsgClass
  origin : MsgOrigin
  tag : BitVec 8
  payload : List Word
  deriving DecidableEq, Repr

/-- A hold-list entry (Table 6-2). -/
structure HoldEntry where
  sender : PortId
  cls : MsgClass
  tag : BitVec 8
  length : Nat
  hold : Countdown
  deriving DecidableEq, Repr

/-- The outcome field of SEND_RESULT (R118). -/
inductive SendOutcome where
  | none | sent | full | detached
  deriving DecidableEq, Repr

/-- The message unit's records of one port: staging buffer, SEND_RESULT's outcome and destination, inbound queue
front first with its opened marker and read index (R119), and hold list head first (R126). -/
structure MessagePortRecord where
  staging : List Word
  outcome : SendOutcome
  dest : PortId
  queue : List Message
  opened : Bool
  readIndex : Nat
  holdList : List HoldEntry
  deriving DecidableEq, Repr

/-! ### The copy engine (Chapter 7) -/

/-- The submission result field of COPY_STATUS (Table 7-3). -/
inductive Submission where
  | none | accepted | busy | badCount | badRange
  deriving DecidableEq, Repr

/-- The state of a job (Table 7-1), and IDLE for COPY_STATUS. -/
inductive JobState where
  | idle | queued | running | done | faulted | cancelled
  deriving DecidableEq, Repr

/-- The fault kind of an ended job (Table 7-1). -/
inductive JobFault where
  | none | rights | guard
  deriving DecidableEq, Repr

/-- The notice outcome field of COPY_STATUS (Table 7-3). -/
inductive NoticeOutcome where
  | none | pending | posted | dropped
  deriving DecidableEq, Repr

/-- The order of a job's words (R146). -/
inductive Direction where
  | ascending | descending
  deriving DecidableEq, Repr

/-- COPY_NOTICE, and a job's notice when its flag is set (R143, R145). -/
structure NoticeTarget where
  port : PortId
  tag : BitVec 8
  deriving DecidableEq, Repr

/-- A job in the queue (Table 7-1). A job that ends leaves the queue in its ending event, so its final state and
fault kind stand in its requester's copy record (R144). -/
structure Job where
  requester : PortId
  source : Word
  destination : Word
  count : Nat
  direction : Direction
  notice : Option NoticeTarget
  state : JobState
  moved : Nat
  cancelMarked : Bool
  deriving DecidableEq, Repr

/-- The phase of the word record; the held word is present in DESTINATION (R149). -/
inductive CopyPhase where
  | source
  | destination (held : Word)
  deriving DecidableEq, Repr

/-- The word record of the running job (R149). -/
structure WordRecord where
  index : Nat
  phase : CopyPhase
  deriving DecidableEq, Repr

/-- The copy parameters of one port (R143) and what COPY_STATUS and COPY_MOVED show of its last job (R161). While
the port's job stands in the queue, the job record gives the job state, the moved count and the jobs ahead. -/
structure CopyPortRecord where
  src : Word
  dst : Word
  count : Word
  noticeFlag : Bool
  notice : NoticeTarget
  submission : Submission
  jobState : JobState
  fault : JobFault
  noticeOutcome : NoticeOutcome
  moved : Nat
  deriving DecidableEq, Repr

/-! ### Causes and the fault queue (Chapter 8) -/

/-- The kinds of fault records (Table 8-3). -/
inductive FaultKind where
  | noStore | rights | guard | holdExpired | claimConflict | holdLimit
  | privilege | badDesc | badValue | badState | stagingOverflow | unassigned
  deriving DecidableEq, Repr

/-- The source of a fault record (Table 8-2). -/
inductive FaultSource where
  | host | copy
  deriving DecidableEq, Repr

/-- A fault record (R175, Table 8-2). -/
structure FaultRecord where
  kind : FaultKind
  source : FaultSource
  access : AccessType
  address : Word
  desc : Option DescId
  lock : Option LockId
  deriving DecidableEq, Repr

/-- The causes and the mask, in the bit positions of INT_CAUSE (Table 10-5), and the fault queue oldest first with
its OVERRUN flag (R167, R173, R177). -/
structure InterruptRecord where
  causes : BitVec 7
  mask : BitVec 7
  faults : List FaultRecord
  overrun : Bool
  deriving DecidableEq, Repr

/-! ### The bus of a port (Chapter 10) -/

/-- What the part has open for the port's bus. `idle`: no cycle is open (the last one has completed). `store`: a
store request waits at the arbiter (R100). `claim`: a held access (R78). `send q`: a send held on q's hold list
(R125). RDY is low in every state but `idle`. -/
inductive BusPhase where
  | idle
  | store
  | claim
  | send (q : PortId)
  deriving DecidableEq, Repr

/-- The bus of a port. `strobe`: the host holds nCS and a strobe asserted for the last cycle it started. `next`: a
cycle started while an earlier one is open, which waits to be sampled and taken when that one completes (R204, R208).
`data`: the word on D15 to D0, none at high impedance (R203). `nerrLow`: nERR is asserted (R206). -/
structure Bus where
  strobe : Bool
  phase : BusPhase
  next : Option BusCycle
  data : Option Word
  nerrLow : Bool
  deriving DecidableEq, Repr

/-! ### Attach state (Chapter 9) -/

/-- The detach reason (R189). -/
inductive DetachReason where
  | none | pin | command | leave
  deriving DecidableEq, Repr

/-- Attach state, detach reason and teardown-pending flag (R189), and how far a pending teardown has come: whether
the lock table's withdrawal is taken, the locks of the set fixed at it whose release events are still to come
(R193), and whether the message unit's and the copy engine's teardowns are taken (R195). -/
structure AttachRecord where
  attached : Bool
  reason : DetachReason
  pending : Bool
  withdrawn : Bool
  toRelease : List LockId
  messagesDown : Bool
  copyDown : Bool
  deriving DecidableEq, Repr

/-- ORPHAN (R186). -/
inductive OrphanPolicy where
  | handover | orphan
  deriving DecidableEq, Repr

/-- Everything the part holds for one port. `prst`: the nPRST input of the port is asserted. -/
structure PortRecord where
  prst : Bool
  attach : AttachRecord
  bus : Bus
  engine : Engine
  held : Option HeldAccess
  lock : LockPortRecord
  region : RegionPortRecord
  msg : MessagePortRecord
  copy : CopyPortRecord
  intr : InterruptRecord
  deriving DecidableEq, Repr

/-- The common store: the words that differ from the word an unlisted address reads as, by rising address. -/
abbrev Store := List (Nat × Word)

/-- The state of the part. `interval` is the length of the tick interval in progress (R37), `nrst` whether nRST is
asserted, `pending` the commands that wait, first in first out. -/
structure State where
  ports : Vector PortRecord 4
  locks : Vector LockRecord 32
  ranks : BitVec 8
  descriptors : Vector Descriptor 16
  defaultRights : BitVec 8
  store : Store
  rotation : Requester
  jobs : List Job
  copyWord : Option WordRecord
  tick : Word
  interval : Word
  holdLimit : Ticks
  failWord : Word
  orphan : OrphanPolicy
  configPort : PortId
  nrst : Bool
  pending : List Instr
  deriving DecidableEq, Repr

/-- Why a step stops with a fault. -/
inductive Fault where
  /-- Raised by SOURCE_READ and DESTINATION_WRITE when the word's address is unbacked (0x8000 or above). R145
  keeps every job inside the store, so no state that a run reaches raises it; the spec gives no ending for it.
  Safe: the machine stops. -/
  | copyWordUnbacked
  deriving DecidableEq, Repr

/-- Why a command has no meaning. -/
inductive Refusal where
  /-- A row of the table whose meaning is not written; no arm of exec answers it. Safe: the machine stops. -/
  | notModelled (mnemonic : String)
  deriving DecidableEq, Repr

/-! ### Reset values -/

/-- R1. -/
def LockRecord.reset : LockRecord :=
  { state := .free, policy := .arrival, leasePeriod := 0, lease := .stopped, waiters := [] }

/-- R9, R14, R15, R26. -/
def LockPortRecord.reset : LockPortRecord :=
  { request := .idle, revoked := 0, sel := 0, result := { outcome := .none, lock := 0 } }

/-- R51; the guard lock number behind an absent guard is 0 (DESC_ATTR resets to 0x0400). -/
def Descriptor.reset : Descriptor :=
  { enabled := false, base := 0, sizeCode := 4, rights := 0, guardPresent := false, guardLock := 0,
    scopeAll := false, policyClaim := false }

/-- R55, R56. -/
def RegionPortRecord.reset : RegionPortRecord := { sel := 0, staging := Descriptor.reset }

/-- Table 5-1. -/
def Engine.reset : Engine := { ptr := 0, step := 1, opnd := 0, request := none }

/-- R116, R118, R119. -/
def MessagePortRecord.reset : MessagePortRecord :=
  { staging := [], outcome := .none, dest := 0, queue := [], opened := false, readIndex := 0, holdList := [] }

/-- R143, R161. -/
def CopyPortRecord.reset : CopyPortRecord :=
  { src := 0, dst := 0, count := 0, noticeFlag := false, notice := { port := 0, tag := 0 },
    submission := .none, jobState := .idle, fault := .none, noticeOutcome := .none, moved := 0 }

/-- R167, R173, R177. -/
def InterruptRecord.reset : InterruptRecord := { causes := 0, mask := 0, faults := [], overrun := false }

/-- R203: RDY and nERR high, data lines at high impedance, no cycle open. -/
def Bus.reset : Bus :=
  { strobe := false, phase := .idle, next := none, data := none, nerrLow := false }

/-- An attached port (R189). -/
def AttachRecord.attachedNow : AttachRecord :=
  { attached := true, reason := .none, pending := false, withdrawn := false, toRelease := [],
    messagesDown := false, copyDown := false }

/-- An attached port with every record at its reset value and its nPRST input released. -/
def PortRecord.reset : PortRecord :=
  { prst := false, attach := AttachRecord.attachedNow, bus := Bus.reset, engine := Engine.reset, held := none,
    lock := LockPortRecord.reset, region := RegionPortRecord.reset, msg := MessagePortRecord.reset,
    copy := CopyPortRecord.reset, intr := InterruptRecord.reset }

/-- The part right after device reset: nRST released with every nPRST released, all four ports attached, the
straps naming P0 (log entry 2), and nothing listed in the store (log entry 1). -/
def State.reset : State :=
  { ports := Vector.replicate 4 PortRecord.reset
    locks := Vector.replicate 32 LockRecord.reset
    ranks := 0
    descriptors := Vector.replicate 16 Descriptor.reset
    defaultRights := 0xAA
    store := []
    rotation := .copyEngine
    jobs := []
    copyWord := none
    tick := 1000
    interval := 1000
    holdLimit := 32
    failWord := 0xFFFF
    orphan := .orphan
    configPort := Config.resetStraps
    nrst := false
    pending := [] }

end Sys2Proof.Machine
end

