-- ==== Sys2Proof/Machine/Ops.lean ====
section
/-! DEFINITION. The named operations over the state: records of ports, locks and descriptors, the words of the
store, countdowns, and the completion of a bus cycle. Operations over the state take it as their last argument. -/

namespace Sys2Proof.Machine

/-! ### Records -/

/-- The record of port `p`. -/
def State.port (s : State) (p : PortId) : PortRecord := s.ports.get p

/-- Replaces the record of port `p`. -/
def setPort (p : PortId) (r : PortRecord) (s : State) : State :=
  { s with ports := s.ports.set p.val r p.isLt }

/-- Changes the record of port `p`. -/
def modPort (p : PortId) (f : PortRecord → PortRecord) (s : State) : State :=
  setPort p (f (s.port p)) s

/-- The record of lock `l`. -/
def State.lock (s : State) (l : LockId) : LockRecord := s.locks.get l

/-- Replaces the record of lock `l`. -/
def setLock (l : LockId) (r : LockRecord) (s : State) : State :=
  { s with locks := s.locks.set l.val r l.isLt }

/-- Changes the record of lock `l`. -/
def modLock (l : LockId) (f : LockRecord → LockRecord) (s : State) : State :=
  setLock l (f (s.lock l)) s

/-- The table entry of descriptor `d`. -/
def State.desc (s : State) (d : DescId) : Descriptor := s.descriptors.get d

/-- Replaces the table entry of descriptor `d`. -/
def setDesc (d : DescId) (r : Descriptor) (s : State) : State :=
  { s with descriptors := s.descriptors.set d.val r d.isLt }

/-- An event of the part itself is taken only while nRST is released (R202). -/
def whileRunning (f : State → State) (s : State) : State := if s.nrst then s else f s

/-! ### Changes of one group of a port's records -/

/-- Changes the access engine of port `p`. -/
def modEngine (p : PortId) (f : Engine → Engine) : State → State :=
  modPort p fun r => { r with engine := f r.engine }

/-- Changes the lock table's records of port `p`. -/
def modLockPort (p : PortId) (f : LockPortRecord → LockPortRecord) : State → State :=
  modPort p fun r => { r with lock := f r.lock }

/-- Changes DESC_SEL and the staging copy of port `p`. -/
def modRegion (p : PortId) (f : RegionPortRecord → RegionPortRecord) : State → State :=
  modPort p fun r => { r with region := f r.region }

/-- Changes the message unit's records of port `p`. -/
def modMsg (p : PortId) (f : MessagePortRecord → MessagePortRecord) : State → State :=
  modPort p fun r => { r with msg := f r.msg }

/-- Changes the copy parameters and status of port `p`. -/
def modCopy (p : PortId) (f : CopyPortRecord → CopyPortRecord) : State → State :=
  modPort p fun r => { r with copy := f r.copy }

/-- Changes the causes, mask and fault queue of port `p`. -/
def modIntr (p : PortId) (f : InterruptRecord → InterruptRecord) : State → State :=
  modPort p fun r => { r with intr := f r.intr }

/-- Changes the attach record of port `p`. -/
def modAttach (p : PortId) (f : AttachRecord → AttachRecord) : State → State :=
  modPort p fun r => { r with attach := f r.attach }

/-- Changes the bus of port `p`. -/
def modBus (p : PortId) (f : Bus → Bus) : State → State :=
  modPort p fun r => { r with bus := f r.bus }

/-- Replaces the held-access record of port `p`. -/
def setHeld (p : PortId) (h : Option HeldAccess) : State → State :=
  modPort p fun r => { r with held := h }

/-! ### The common store (R93) -/

/-- What a store word that nothing has written reads as. DESIGN CHOICE, unsafe: R93 leaves the contents at
power-up arbitrary (log entry 1). -/
def unwrittenWord : Word := 0

/-- The store word at a word address. -/
def storeRead : Store → Nat → Word
  | [], _ => unwrittenWord
  | (b, v) :: m, a => if a = b then v else storeRead m a

/-- Stores a word, keeping the list rising and free of words an unlisted address reads as. -/
def storeWrite : Store → Nat → Word → Store
  | [], a, w => if w = unwrittenWord then [] else [(a, w)]
  | (b, v) :: m, a, w =>
    if a < b then (if w = unwrittenWord then (b, v) :: m else (a, w) :: (b, v) :: m)
    else if a = b then (if w = unwrittenWord then m else (a, w) :: m)
    else (b, v) :: storeWrite m a w

/-- The canonical form: addresses strictly rising, each below 0x8000, and no listed word equal to what an
unlisted address reads as. -/
abbrev storeWf (m : Store) : Prop :=
  m.Pairwise (fun c d => c.1 < d.1) ∧ ∀ c ∈ m, c.1 < Config.storeWords ∧ c.2 ≠ unwrittenWord

/-- The store word of the part at a 16-bit address value. -/
def State.word (s : State) (a : Word) : Word := storeRead s.store a.toNat

/-- Stores a word of the part. -/
def putWord (a w : Word) (s : State) : State := { s with store := storeWrite s.store a.toNat w }

/-! ### Countdowns (R38) -/

/-- Loading a count; a load of 0 starts nothing. -/
def Countdown.load (n : Ticks) : Countdown := if n = 0 then .stopped else .running n

/-- The decrement of one tick event; at 0 the expiry is due. -/
def Countdown.tick : Countdown → Countdown
  | .stopped => .stopped
  | .running n => if n.toNat ≤ 1 then .due else .running (n - 1)
  | .due => .due

/-- The ticks left, as LOCK_VIEW shows them. -/
def Countdown.remaining : Countdown → Ticks
  | .stopped => 0
  | .running n => n
  | .due => 0

/-! ### Two-bit fields per port -/

/-- The field of port `p` in a register that holds two bits for each port (RANKS, DESC_RIGHTS, DEFAULT_RIGHTS). -/
def fieldOf (b : BitVec 8) (p : PortId) : BitVec 2 := b.extractLsb' (2 * p.val) 2

/-- The current rank of port `p` (R5). -/
def State.rank (s : State) (p : PortId) : BitVec 2 := fieldOf s.ranks p

/-! ### Locks of a port -/

/-- The held set of port `p`, derived from the lock records (R12). -/
def State.heldLocks (s : State) (p : PortId) : List LockId :=
  allLocks.filter fun l => decide ((s.lock l).state = .held p)

/-- The port's request record is WAITING (R9). -/
def RequestRecord.isWaiting : RequestRecord → Bool
  | .waiting _ _ => true
  | _ => false

/-- The count that HOLD_MAX bounds: held locks plus one while WAITING (R13). -/
def State.holdCount (s : State) (p : PortId) : Nat :=
  (s.heldLocks p).length + if (s.port p).lock.request.isWaiting then 1 else 0

/-! ### The bus (R204 to R208) -/

/-- The part has a cycle of port `p` open and holds RDY low (Table 10-1). -/
def State.rdyLow (s : State) (p : PortId) : Bool := (s.port p).bus.phase != .idle

/-- The bus of port `p` is in reset (R203). -/
def State.busInReset (s : State) (p : PortId) : Bool := s.nrst || (s.port p).prst

/-- The open cycle completes with `data` on D15–D0 (none for a write) and nERR asserted when `err`. When a further
cycle waits, the data and nERR are lost to the host, and the waiting cycle is taken in the same event (`settle`);
without a strobe nothing is driven and nothing waits (R205, R206, R208). -/
def Bus.complete (data : Option Word) (err : Bool) (b : Bus) : Bus :=
  if b.strobe && b.next.isNone then { b with phase := .idle, data := data, nerrLow := err }
  else { b with phase := .idle, next := if b.strobe then b.next else none, data := none, nerrLow := false }

/-- Completes the open cycle of port `p`. -/
def completeCycle (p : PortId) (data : Option Word) (err : Bool) : State → State :=
  modBus p (Bus.complete data err)

/-- A cycle is taken: the strobe is asserted, no other cycle waits, the data lines float and nERR is high (R203,
R204). -/
def Bus.begin : Bus := { strobe := true, phase := .idle, next := none, data := none, nerrLow := false }

/-- The bus goes into reset at the pins: RDY released, nERR high, data lines at high impedance; a cycle not yet
sampled is lost, and the host's strobe is its own (R203). -/
def Bus.toReset (b : Bus) : Bus := { b with phase := .idle, next := none, data := none, nerrLow := false }

end Sys2Proof.Machine
end

