-- ==== Sys2Proof/Machine/Flags.lean ====
section
/-! DEFINITION. The flags of a port: the seven causes with their mask and the interrupt line (R167 to R174), and the
fault queue with its OVERRUN flag, as the events of the other blocks reach them (R175 to R178). -/

namespace Sys2Proof.Machine

/-- The seven causes (R167). -/
inductive Cause where
  | lockOutcome | revoked | msgArrived | msgUrgent | copyEnd | fault | peerChange
  deriving DecidableEq, Repr

/-- The position of a cause in INT_CAUSE and INT_MASK (Table 10-5). -/
def causeIndex : Cause → Nat
  | .lockOutcome => 0
  | .revoked => 1
  | .msgArrived => 2
  | .msgUrgent => 3
  | .copyEnd => 4
  | .fault => 5
  | .peerChange => 6

/-- The one bit of a cause. -/
def causeBit (c : Cause) : BitVec 7 := (1 : BitVec 7) <<< causeIndex c

/-- The cause is set at port `p`. -/
def State.causeSet (s : State) (p : PortId) (c : Cause) : Bool := (s.port p).intr.causes.getLsbD (causeIndex c)

/-- An event sets a cause of port `p`, whatever the mask holds (R167). -/
def setCause (p : PortId) (c : Cause) : State → State :=
  modIntr p fun i => { i with causes := i.causes ||| causeBit c }

/-- nINT of port `p` is asserted: the port is ATTACHED, nRST is released, and a cause is set and unmasked (R174). -/
def State.nintLow (s : State) (p : PortId) : Bool :=
  !s.nrst && (s.port p).attach.attached && ((s.port p).intr.causes &&& (s.port p).intr.mask) != 0

/-- A record meets a fault queue: appended with room, otherwise dropped with OVERRUN set (R178). -/
def InterruptRecord.offer (f : FaultRecord) (i : InterruptRecord) : InterruptRecord :=
  if i.faults.length < Config.faultQueueMax then { i with faults := i.faults ++ [f] } else { i with overrun := true }

/-- A fault record is offered to the fault queue of port `p`, and its FAULT cause is set (R178). -/
def offerFault (p : PortId) (f : FaultRecord) (s : State) : State :=
  s |> modIntr p (InterruptRecord.offer f) |> setCause p .fault

/-- The access type of a register fault: READ for a refused read, WRITE for a refused write (R175). -/
def CycleOp.accessType : CycleOp → AccessType
  | .read => .read
  | .write _ => .write

/-- The word a refused register cycle returns: 0x0000 for a read (R176). -/
def CycleOp.refusedData : CycleOp → Option Word
  | .read => some 0
  | .write _ => none

/-- The record of a register fault: source HOST, the window byte offset as its address (R175). -/
def registerFault (k : FaultKind) (c : BusCycle) (d : Option DescId) (l : Option LockId) : FaultRecord :=
  { kind := k, source := .host, access := CycleOp.accessType c.op,
    address := BitVec.ofNat 16 (2 * c.addr.toNat), desc := d, lock := l }

/-- A register cycle of port `p` is refused: the record is offered, and the cycle ends with nERR (R176, R206). -/
def refuseCycle (p : PortId) (k : FaultKind) (c : BusCycle) (d : Option DescId) (l : Option LockId)
    (s : State) : State :=
  s |> offerFault p (registerFault k c d l) |> completeCycle p (CycleOp.refusedData c.op) true

/-- PEER_CHANGE is set at every other port whose attach state is ATTACHED (R199). -/
def peerChange (p : PortId) (s : State) : State :=
  allPorts.foldl (fun t q => if q ≠ p ∧ (t.port q).attach.attached then setCause q .peerChange t else t) s

end Sys2Proof.Machine
end

