-- ==== Sys2Proof/Machine/Operands.lean ====
section
/-! DEFINITION. The layouts of the register words that hosts read, and of the fields of the data words they write
(Tables 10-4 and 10-5), and the value each register shows at a read event. A layout is written as its fields from
bit 15 down, each with its width. -/

namespace Sys2Proof.Machine

/-! ### Codes of enumerated fields (Table 10-4) -/

/-- LOCK_RESULT 15–12. -/
def lockOutcomeCode : LockOutcome → BitVec 4
  | .none => 0 | .granted => 1 | .busy => 2 | .pending => 3 | .released => 4 | .renewed => 5
  | .cancelled => 6 | .forced => 7 | .notHeld => 8 | .refusedAlreadyHeld => 9 | .refusedNotHolder => 10
  | .refusedRequestPending => 11 | .refusedNoRequest => 12 | .refusedHoldLimit => 13 | .refusedPrivilege => 14

/-- WAIT_STATE 8 and the kind bits of LOCK_WAITERS. -/
def waitKindBit : WaitKind → BitVec 1
  | .explicit => 0 | .claim => 1

/-- Message header 15–14. -/
def msgClassCode : MsgClass → BitVec 2
  | .normal => 1 | .urgent => 2

/-- Message header 11. -/
def msgOriginBit : MsgOrigin → BitVec 1
  | .host => 0 | .copy => 1

/-- COPY_STATUS 15–13. -/
def jobStateCode : JobState → BitVec 3
  | .idle => 0 | .queued => 1 | .running => 2 | .done => 3 | .faulted => 4 | .cancelled => 5

/-- COPY_STATUS 12–11. -/
def jobFaultCode : JobFault → BitVec 2
  | .none => 0 | .rights => 1 | .guard => 2

/-- COPY_STATUS 10–8. -/
def submissionCode : Submission → BitVec 3
  | .none => 0 | .accepted => 1 | .busy => 2 | .badCount => 3 | .badRange => 4

/-- COPY_STATUS 5–4. -/
def noticeOutcomeCode : NoticeOutcome → BitVec 2
  | .none => 0 | .pending => 1 | .posted => 2 | .dropped => 3

/-- FAULT_HEAD 15–12. -/
def faultKindCode : FaultKind → BitVec 4
  | .noStore => 1 | .rights => 2 | .guard => 3 | .holdExpired => 4 | .claimConflict => 5 | .holdLimit => 6
  | .privilege => 7 | .badDesc => 8 | .badValue => 9 | .badState => 10 | .stagingOverflow => 11
  | .unassigned => 12

/-- FAULT_HEAD 11. -/
def faultSourceBit : FaultSource → BitVec 1
  | .host => 0 | .copy => 1

/-- FAULT_HEAD 10–9. -/
def accessTypeCode : AccessType → BitVec 2
  | .read => 0 | .write => 1 | .xchg => 2 | .fadd => 3

/-- PORT_STATE 9–8. -/
def detachReasonCode : DetachReason → BitVec 2
  | .none => 0 | .pin => 1 | .command => 2 | .leave => 3

/-- SEND_RESULT 15–14. -/
def sendOutcomeCode : SendOutcome → BitVec 2
  | .none => 0 | .sent => 1 | .full => 2 | .detached => 3

/-! ### Port and attach registers -/

/-- PORT_ID: configuration port 9–8, own port 1–0. -/
def portIdWord (own config : PortId) : Word :=
  (0 : BitVec 6) ++ BitVec.ofNat 2 config.val ++ (0 : BitVec 6) ++ BitVec.ofNat 2 own.val

/-- PORT_STATE as read: attach state 15, reason 9–8, teardown pending 0. -/
def portStateWord (a : AttachRecord) : Word :=
  bit (!a.attached) ++ (0 : BitVec 5) ++ detachReasonCode a.reason ++ (0 : BitVec 7) ++ bit a.pending

/-- PEERS: bit p is set when port p is ATTACHED (R199). -/
def peersWord (s : State) : Word :=
  (0 : BitVec 12) ++ bit (s.port 3).attach.attached ++ bit (s.port 2).attach.attached
    ++ bit (s.port 1).attach.attached ++ bit (s.port 0).attach.attached

/-! ### Causes and faults -/

/-- INT_CAUSE and INT_MASK: the seven positions 6–0. -/
def causesWord (b : BitVec 7) : Word := (0 : BitVec 9) ++ b

/-- The enables or the ones that a written word carries at the seven positions. -/
def causesField (w : Word) : BitVec 7 := w.extractLsb' 0 7

/-- FAULT_HEAD of a record: kind 15–12, source 11, access type 10–9, descriptor present 4, descriptor 3–0 (R179, Table
10-4). DESIGN CHOICE, unsafe: bits 3–0 read 0 when the record names no descriptor (log entry 25). -/
def faultHeadWord (f : FaultRecord) : Word :=
  faultKindCode f.kind ++ faultSourceBit f.source ++ accessTypeCode f.access ++ (0 : BitVec 4)
    ++ bit f.desc.isSome ++ BitVec.ofNat 4 ((f.desc.map Fin.val).getD 0)

/-- FAULT_LOCK of a record: lock present 5, lock 4–0 (R211). -/
def faultLockWord (f : FaultRecord) : Word :=
  (0 : BitVec 10) ++ bit f.lock.isSome ++ BitVec.ofNat 5 ((f.lock.map Fin.val).getD 0)

/-- FAULT_CTRL as read: OVERRUN 15, record count 2–0. -/
def faultCtrlWord (i : InterruptRecord) : Word :=
  bit i.overrun ++ (0 : BitVec 12) ++ BitVec.ofNat 3 i.faults.length

/-! ### The access engine -/

/-- STEP as read: sixteen-bit two's complement (R98). -/
def stepWord (st : BitVec 8) : Word := st.signExtend 16

/-- The STEP values a write may carry: 0x0000 to 0x007F and 0xFF80 to 0xFFFF (R98). -/
def stepAccepted (w : Word) : Bool := decide (w.toNat ≤ 0x7F) || decide (0xFF80 ≤ w.toNat)

/-! ### The lock table -/

/-- LOCK_RESULT: outcome 15–12, lock 4–0 (0 with NONE, R15). -/
def lockResultWord (r : LockResult) : Word :=
  lockOutcomeCode r.outcome ++ (0 : BitVec 7)
    ++ BitVec.ofNat 5 (if r.outcome = .none then 0 else r.lock.val)

/-- WAIT_STATE from a state code, a kind and a lock. -/
def waitStateFields (code : BitVec 3) (k : WaitKind) (l : LockId) : Word :=
  code ++ (0 : BitVec 4) ++ waitKindBit k ++ (0 : BitVec 3) ++ BitVec.ofNat 5 l.val

/-- WAIT_STATE: state 15–13, kind 8, lock 4–0; 0 while IDLE. -/
def waitStateWord : RequestRecord → Word
  | .idle => 0
  | .waiting l k => waitStateFields 1 k l
  | .granted l k => waitStateFields 2 k l
  | .timedOut l k => waitStateFields 3 k l
  | .cancelled l k => waitStateFields 4 k l

/-- The held set as a bit set: bit n is Ln (R12). -/
def State.heldBits (s : State) (p : PortId) : BitVec 32 :=
  (s.heldLocks p).foldl (fun b l => b ||| ((1 : BitVec 32) <<< l.val)) 0

/-- HELD_LO and REVOKED_LO: L0 to L15. -/
def lowLocks (b : BitVec 32) : Word := b.extractLsb' 0 16

/-- HELD_HI and REVOKED_HI: L16 to L31. -/
def highLocks (b : BitVec 32) : Word := b.extractLsb' 16 16

/-- LOCK_VIEW 15–14. -/
def lockStateCode : LockState → BitVec 2
  | .free => 0 | .held _ => 1 | .orphaned => 2

/-- LOCK_VIEW 13–12: the holder, 0 unless HELD. -/
def holderField : LockState → BitVec 2
  | .held p => BitVec.ofNat 2 p.val
  | _ => 0

/-- LOCK_VIEW: state 15–14, holder 13–12, wait count 10–8, lease remaining 7–0 (R26). -/
def lockViewWord (r : LockRecord) : Word :=
  lockStateCode r.state ++ holderField r.state ++ (0 : BitVec 1) ++ BitVec.ofNat 3 r.waiters.length
    ++ r.lease.remaining

/-- One position of LOCK_WAITERS: present, kind, port; an empty position reads 0 (R27). -/
def waiterNibble : Option Waiter → BitVec 4
  | none => 0
  | some w => (1 : BitVec 1) ++ waitKindBit w.kind ++ BitVec.ofNat 2 w.port.val

/-- LOCK_WAITERS: position i at bits 4i+3 to 4i, head at i = 0 (R27). -/
def lockWaitersWord (r : LockRecord) : Word :=
  waiterNibble r.waiters[3]? ++ waiterNibble r.waiters[2]? ++ waiterNibble r.waiters[1]?
    ++ waiterNibble r.waiters[0]?

/-- The policy that bit 15 of LOCK_CFG names. -/
def policyOf (w : Word) : LockPolicy := if w.getLsbD 15 then .rank else .arrival

/-- The lease period that bits 7–0 of LOCK_CFG carry. -/
def periodOf (w : Word) : Ticks := w.extractLsb' 0 8

/-- LOCK_CFG: policy 15, lease period 7–0 (R187). -/
def lockCfgWord (r : LockRecord) : Word :=
  bit (decide (r.policy = .rank)) ++ (0 : BitVec 7) ++ r.leasePeriod

/-! ### The region table -/

/-- DESC_ATTR: enabled 15, size code 11–8, guard present 7, scope 6, policy 5, guard lock 4–0, which are shown also when
bit 7 is clear (DEDUCED, unsafe: log entry 18). -/
def descAttrWord (d : Descriptor) : Word :=
  bit d.enabled ++ (0 : BitVec 3) ++ d.sizeCode ++ bit d.guardPresent ++ bit d.scopeAll ++ bit d.policyClaim
    ++ d.guardLock

/-- The fields a DESC_ATTR write replaces (R56); the guard lock also when bit 7 is clear (DEDUCED, unsafe: log entry 18). -/
def withAttr (w : Word) (d : Descriptor) : Descriptor :=
  { d with enabled := w.getLsbD 15, sizeCode := w.extractLsb' 8 4, guardPresent := w.getLsbD 7,
           scopeAll := w.getLsbD 6, policyClaim := w.getLsbD 5, guardLock := w.extractLsb' 0 5 }

/-- DESC_RIGHTS, DEFAULT_RIGHTS and RANKS: two bits per port in bits 7–0. -/
def byteWord (b : BitVec 8) : Word := (0 : BitVec 8) ++ b

/-- The four two-bit fields that a written word carries. -/
def byteField (w : Word) : BitVec 8 := w.extractLsb' 0 8

/-! ### Messages -/

/-- The header of a message: class 15–14, sender 13–12, origin 11, length 10–8, tag 7–0 (R115). -/
def headerWord (m : Message) : Word :=
  msgClassCode m.cls ++ BitVec.ofNat 2 m.sender.val ++ msgOriginBit m.origin
    ++ BitVec.ofNat 3 m.payload.length ++ m.tag

/-- The words a message of length n occupies (R114). -/
def wordsFor (n : Nat) : Nat := 1 + n

/-- The words used by a queue (R119). -/
def wordsUsed (q : List Message) : Nat := (q.map fun m => wordsFor m.payload.length).sum

/-- SEND_RESULT: outcome 15–14, destination 9–8, staging count 2–0 (R118). -/
def sendResultWord (m : MessagePortRecord) : Word :=
  sendOutcomeCode m.outcome ++ (0 : BitVec 4) ++ BitVec.ofNat 2 m.dest.val ++ (0 : BitVec 5)
    ++ BitVec.ofNat 3 m.staging.length

/-- IN_CTRL as read: hold-list entries 15–14, messages 13–8, words used 5–0 (R135). -/
def inCtrlWord (m : MessagePortRecord) : Word :=
  BitVec.ofNat 2 m.holdList.length ++ BitVec.ofNat 6 m.queue.length ++ (0 : BitVec 2)
    ++ BitVec.ofNat 6 (wordsUsed m.queue)

/-! ### The copy engine -/

/-- COPY_NOTICE: flag 15, notice port 9–8, tag 7–0. -/
def copyNoticeWord (c : CopyPortRecord) : Word :=
  bit c.noticeFlag ++ (0 : BitVec 5) ++ BitVec.ofNat 2 c.notice.port.val ++ c.notice.tag

/-- The notice target that a COPY_NOTICE word carries. -/
def noticeOf (w : Word) : NoticeTarget := { port := portOf (w.extractLsb' 8 2), tag := w.extractLsb' 0 8 }

/-- The job of port `p` in the queue, if it has one (R147: at most one). -/
def State.jobOf (s : State) (p : PortId) : Option Job := s.jobs.find? fun j => decide (j.requester = p)

/-- The number of jobs ahead of the port's job; 0 when it has none in the queue (Table 7-3). -/
def State.jobsAhead (s : State) (p : PortId) : Nat :=
  match s.jobOf p with
  | none => 0
  | some _ => s.jobs.findIdx fun j => decide (j.requester = p)

/-- The job state COPY_STATUS shows: the live state of the port's job, or the final one of its last (R161). -/
def State.shownJobState (s : State) (p : PortId) : JobState :=
  match s.jobOf p with
  | some j => j.state
  | none => (s.port p).copy.jobState

/-- The moved count COPY_MOVED shows (R161). -/
def State.shownMoved (s : State) (p : PortId) : Nat :=
  match s.jobOf p with
  | some j => j.moved
  | none => (s.port p).copy.moved

/-- COPY_STATUS: job state 15–13, fault kind 12–11, submission result 10–8, notice outcome 5–4, jobs ahead 1–0. -/
def copyStatusWord (s : State) (p : PortId) : Word :=
  let c := (s.port p).copy
  jobStateCode (s.shownJobState p) ++ jobFaultCode c.fault ++ submissionCode c.submission ++ (0 : BitVec 2)
    ++ noticeOutcomeCode c.noticeOutcome ++ (0 : BitVec 2) ++ BitVec.ofNat 2 (s.jobsAhead p)

/-! ### Configuration -/

/-- ORPHAN: policy 0. -/
def orphanWord : OrphanPolicy → Word
  | .handover => 0
  | .orphan => 1

/-- The policy that bit 0 of ORPHAN names. -/
def orphanOf (w : Word) : OrphanPolicy := if w.getLsbD 0 then .orphan else .handover

/-! ### The value of a register -/

/-- The value a read of an attached window returns at a register whose read changes nothing. A W register reads
0x0000 (R209); DATA, XCHG, FADD, IN_HEAD and IN_DATA are read by commands of their own, and their entry here is
not used. -/
def registerValue (s : State) (p : PortId) : Reg → Word
  | .portId => portIdWord p s.configPort
  | .portState => portStateWord (s.port p).attach
  | .peers => peersWord s
  | .intCause => causesWord (s.port p).intr.causes
  | .intMask => causesWord (s.port p).intr.mask
  | .faultHead => ((s.port p).intr.faults.head?.map faultHeadWord).getD 0
  | .faultAddr => ((s.port p).intr.faults.head?.map FaultRecord.address).getD 0
  | .faultLock => ((s.port p).intr.faults.head?.map faultLockWord).getD 0
  | .faultCtrl => faultCtrlWord (s.port p).intr
  | .ptr => (s.port p).engine.ptr
  | .step => stepWord (s.port p).engine.step
  | .opnd => (s.port p).engine.opnd
  | .data => 0
  | .xchg => 0
  | .fadd => 0
  | .lockSel => BitVec.ofNat 16 (s.port p).lock.sel.val
  | .lockCmd => 0
  | .lockResult => lockResultWord (s.port p).lock.result
  | .waitState => waitStateWord (s.port p).lock.request
  | .heldLo => lowLocks (s.heldBits p)
  | .heldHi => highLocks (s.heldBits p)
  | .revokedLo => lowLocks (s.port p).lock.revoked
  | .revokedHi => highLocks (s.port p).lock.revoked
  | .lockView => lockViewWord (s.lock (s.port p).lock.sel)
  | .lockWaiters => lockWaitersWord (s.lock (s.port p).lock.sel)
  | .lockCfg => lockCfgWord (s.lock (s.port p).lock.sel)
  | .descSel => BitVec.ofNat 16 (s.port p).region.sel.val
  | .descBase => (s.port p).region.staging.base
  | .descAttr => descAttrWord (s.port p).region.staging
  | .descRights => byteWord (s.port p).region.staging.rights
  | .descCmd => 0
  | .outData => 0
  | .outCmd => 0
  | .sendResult => sendResultWord (s.port p).msg
  | .inHead => 0
  | .inData => 0
  | .inCtrl => inCtrlWord (s.port p).msg
  | .copySrc => (s.port p).copy.src
  | .copyDst => (s.port p).copy.dst
  | .copyCount => (s.port p).copy.count
  | .copyNotice => copyNoticeWord (s.port p).copy
  | .copyCmd => 0
  | .copyStatus => copyStatusWord s p
  | .copyMoved => BitVec.ofNat 16 (s.shownMoved p)
  | .tick => s.tick
  | .holdLimit => s.holdLimit.setWidth 16
  | .failWord => s.failWord
  | .orphan => orphanWord s.orphan
  | .ranks => byteWord s.ranks
  | .defaultRights => byteWord s.defaultRights
  | .portCmd => 0

end Sys2Proof.Machine
end

