-- ==== Sys2Proof/Machine/Bus.lean ====
section
/-! DEFINITION. The bus of a port around a command: when a cycle is taken, when it waits for the cycle before it,
and what a detached window answers (R192, R203, R204, R208, R212). -/

namespace Sys2Proof.Machine

/-- A reattach: ATTACHED with reason NONE; the port's records already hold their reset values. PEER_CHANGE is set at
every other attached port (R198). -/
def reattach (p : PortId) (s : State) : State :=
  s |> modAttach p (fun _ => AttachRecord.attachedNow) |> peerChange p

/-- The condition under which a JOIN reattaches: detached by COMMAND or LEAVE with the teardown complete (R197). -/
def AttachRecord.joinable (a : AttachRecord) : Bool :=
  !a.attached && (a.reason == .command || a.reason == .leave) && !a.pending

/-- What a detached window returns for a read (R192, R212). -/
def detachedRead (s : State) (p : PortId) (addr : BitVec 6) : Word :=
  match regAt addr with
  | some .portId => portIdWord p s.configPort
  | some .portState => portStateWord (s.port p).attach
  | _ => 0

/-- A cycle of a detached window: it ends without nERR and without a record; a JOIN reattaches the port when R197
allows, and every other write is ignored (R192, R212). -/
def detachedCycle (p : PortId) (c : BusCycle) (s : State) : State :=
  match c.op with
  | .read => completeCycle p (some (detachedRead s p c.addr)) false s
  | .write w =>
    if regAt c.addr = some .portState ∧ lowCode w = 2 ∧ (s.port p).attach.joinable then
      s |> reattach p |> completeCycle p none false
    else completeCycle p none false s

/-- A window cycle `c` of port `p`, whose event at an attached window is `body`. While the bus is in reset no cycle
is taken (R203). While an earlier cycle of the port is open, the cycle waits for its completion (R204, R208). A detached
window answers as R192 gives. -/
def hostCycle (p : PortId) (c : BusCycle) (body : State → State) (s : State) : State :=
  if s.busInReset p then modBus p (fun b => { b with strobe := true }) s
  else if (s.port p).bus.phase = .idle then
    let t := modBus p (fun _ => Bus.begin) s
    if (s.port p).attach.attached then body t else detachedCycle p c t
  else modBus p (fun b => { b with strobe := true, next := some c }) s

/-- A window event ends its cycle without error; `data` is the word a read returns (R205). -/
def done (p : PortId) (data : Option Word) : State → State := completeCycle p data false

end Sys2Proof.Machine
end

