-- ==== Sys2Proof/Machine/Region.lean ====
section
/-! DEFINITION. The region table: resolution of the governing descriptor and the ordered access check (R51 to R69),
and the commands that select, stage, LOAD and COMMIT descriptors and write DEFAULT_RIGHTS (R54 to R60). -/

namespace Sys2Proof.Machine

/-! ### Resolution and the check -/

/-- A descriptor covers a word address when it is enabled and the address lies in its block (Table 3-1). -/
def Descriptor.covers (d : Descriptor) (a : Nat) : Bool :=
  d.enabled && decide (d.base.toNat ≤ a) && decide (a < d.base.toNat + 2 ^ d.sizeCode.toNat)

/-- The governing descriptor: the covering one of smallest size code, and among those the lowest number (R62). -/
def State.governing (s : State) (a : Nat) : Option DescId :=
  allDescs.foldl (fun best d =>
    if (s.desc d).covers a then
      match best with
      | none => some d
      | some b => if (s.desc d).sizeCode.toNat < (s.desc b).sizeCode.toNat then some d else some b
    else best) none

/-- Whether a rights value permits an access type (Table 3-2): 0 NONE, 1 READ, 2 READ_WRITE. The illegal encoding
3, which no table entry holds (R59), permits nothing. -/
def permits (rights : BitVec 2) (t : AccessType) : Bool :=
  rights == 2 || (rights == 1 && t == .read)

/-- The rights that apply to port `p` at an address (R62): the governing descriptor's, or DEFAULT_RIGHTS. -/
def State.applicableRights (s : State) (p : PortId) (a : Nat) : BitVec 2 :=
  match s.governing a with
  | some d => fieldOf (s.desc d).rights p
  | none => fieldOf s.defaultRights p

/-- The answer of steps 1 to 3 of the check (Table 3-5). `guarded`: step 3 failed at this descriptor and guard
lock; `claims` is the CLAIM policy. -/
inductive Verdict where
  | permitted
  | noStore
  | rights (d : Option DescId)
  | guarded (d : DescId) (l : LockId) (claims : Bool)
  deriving DecidableEq, Repr

/-- The guard lock of a descriptor for an access type: present when the descriptor names a guard and its scope
covers the type (R53). -/
def Descriptor.guardFor (d : Descriptor) (t : AccessType) : Option LockId :=
  if d.guardPresent && (d.scopeAll || t != .read) then some (lockOf d.guardLock) else none

/-- Step 3 at the governing descriptor (R67). -/
def State.checkGuard (s : State) (p : PortId) (t : AccessType) (d : DescId) : Verdict :=
  match (s.desc d).guardFor t with
  | none => .permitted
  | some l => if (s.lock l).state = .held p then .permitted else .guarded d l (s.desc d).policyClaim

/-- Steps 1 to 3 of the check of an access by port `p` (R64 to R67). -/
def State.check (s : State) (p : PortId) (t : AccessType) (a : Word) : Verdict :=
  if Config.storeWords ≤ a.toNat then .noStore
  else if permits (s.applicableRights p a.toNat) t then
    match s.governing a.toNat with
    | none => .permitted
    | some d => s.checkGuard p t d
  else .rights (s.governing a.toNat)

/-! ### Selection, staging, LOAD and COMMIT -/

/-- DESC_SEL is judged on the whole word (R55, R209). -/
def writeDescSel (p : PortId) (w : Word) (s : State) : State :=
  if 15 < w.toNat then refuseCycle p .badValue (cycleAt .descSel (.write w)) none none s
  else s |> modRegion p (fun r => { r with sel := descOf (w.extractLsb' 0 4) }) |> done p none

/-- A staging write replaces the fields of its register, without validation (R56). -/
def writeStaging (p : PortId) (f : Descriptor → Descriptor) (s : State) : State :=
  s |> modRegion p (fun r => { r with staging := f r.staging }) |> done p none

/-- LOAD copies the selected table entry into the staging copy, whole (R57). -/
def loadDescriptor (p : PortId) (s : State) : State :=
  s |> modRegion p (fun r => { r with staging := s.desc r.sel }) |> done p none

/-- Each of four two-bit rights fields is NONE, READ or READ_WRITE. -/
def rightsLegal (b : BitVec 8) : Bool := allPorts.all fun p => fieldOf b p != 3

/-- The conditions of Table 3-3 (R59). -/
def Descriptor.valid (d : Descriptor) : Bool :=
  decide (4 ≤ d.sizeCode.toNat) && decide (d.base.toNat % 2 ^ d.sizeCode.toNat = 0)
    && decide (d.base.toNat < Config.storeWords) && rightsLegal d.rights

/-- COMMIT: PRIVILEGE from another port, BAD_DESC for a staging copy that fails validation, otherwise the table
entry is replaced whole (R58 to R60, R73). -/
def commitDescriptor (p : PortId) (s : State) : State :=
  let r := (s.port p).region
  let c := cycleAt .descCmd (.write 2)
  if p ≠ s.configPort then refuseCycle p .privilege c (some r.sel) none s
  else if r.staging.valid then s |> setDesc r.sel r.staging |> done p none
  else refuseCycle p .badDesc c (some r.sel) none s

/-- A write of a configuration register: PRIVILEGE from any other port, whatever the value (R184). -/
def configWrite (p : PortId) (r : Reg) (w : Word) (body : State → State) (s : State) : State :=
  if p ≠ s.configPort then refuseCycle p .privilege (cycleAt r (.write w)) none none s else body s

/-- A register write refused with BAD_VALUE; nothing behind the register changes (R176, R209). -/
def badValue (p : PortId) (r : Reg) (w : Word) : State → State :=
  refuseCycle p .badValue (cycleAt r (.write w)) none none

/-- DEFAULT_RIGHTS: all four values together, or BAD_VALUE when a field holds 3 (R54). -/
def writeDefaultRights (p : PortId) (w : Word) : State → State :=
  configWrite p .defaultRights w fun s =>
    if rightsLegal (byteField w) then { s with defaultRights := byteField w } |> done p none
    else badValue p .defaultRights w s

end Sys2Proof.Machine
end

