-- ==== Sys2Proof/Machine/Access.lean ====
section
/-! DEFINITION. A host store access at its grant: the access made, the advance of PTR, and a refused access
(R68, R70, R72, R101 to R105). Shared by the rotation grant and by the completion grant of a held access. -/

namespace Sys2Proof.Machine

/-- The access type of a host access. -/
def HostAccess.type : HostAccess → AccessType
  | .read => .read
  | .write _ => .write
  | .xchg => .xchg
  | .fadd => .fadd

/-- The word that a refused access returns: FAIL_WORD for a read, XCHG or FADD (R70, R71). -/
def HostAccess.failData (a : HostAccess) (failWord : Word) : Option Word :=
  match a with
  | .write _ => none
  | _ => some failWord

/-- The word that a permitted access returns: the store word read (R101, R103, R104). -/
def HostAccess.readData (a : HostAccess) (old : Word) : Option Word :=
  match a with
  | .write _ => none
  | _ => some old

/-- What a permitted access does to the store: a write stores its word, XCHG stores OPND, FADD stores the sum
modulo 65,536 (R101 to R104). -/
def HostAccess.toStore (a : HostAccess) (opnd old : Word) (addr : Word) : State → State :=
  match a with
  | .read => id
  | .write w => putWord addr w
  | .xchg => putWord addr opnd
  | .fadd => putWord addr (old + opnd)

/-- PTR plus STEP modulo 65,536, STEP counted as a signed value (R105). -/
def advance (e : Engine) : Engine := { e with ptr := e.ptr + e.step.signExtend 16 }

/-- A permitted host access: the store access, the advance and the completion, in one event (R68, R105). -/
def completeAccess (p : PortId) (a : HostAccess) (addr : Word) (s : State) : State :=
  s |> a.toStore (s.port p).engine.opnd (s.word addr) addr
    |> modEngine p advance
    |> completeCycle p (a.readData (s.word addr)) false

/-- A refused host access: nERR, FAIL_WORD for a read, a fault record, and no other change (R70, R72). -/
def refuseAccess (p : PortId) (a : HostAccess) (addr : Word) (k : FaultKind) (d : Option DescId)
    (l : Option LockId) (s : State) : State :=
  s |> offerFault p { kind := k, source := .host, access := a.type, address := addr, desc := d, lock := l }
    |> completeCycle p (a.failData s.failWord) true

end Sys2Proof.Machine
end

