-- ==== Sys2Proof/Machine/Locks.lean ====
section
/-! DEFINITION. The lock table's shared operations: waiter lists, grant, the recheck that ends a held access,
handover and revocation (R5 to R8, R22 to R24, R82, R83). -/

namespace Sys2Proof.Machine

/-- Under RANK: after every entry of equal or higher entry rank, before every entry of lower (R7). -/
def insertByRank (w : Waiter) : List Waiter → List Waiter
  | [] => [w]
  | x :: xs => if w.rank.toNat ≤ x.rank.toNat then x :: insertByRank w xs else w :: x :: xs

/-- A new waiter entry is placed by the lock's policy (R6, R7). -/
def insertWaiter (policy : LockPolicy) (w : Waiter) (ws : List Waiter) : List Waiter :=
  match policy with
  | .arrival => ws ++ [w]
  | .rank => insertByRank w ws

/-- The wait list without the entry of port `p`; the entries that remain keep their order (R8). -/
def dropWaiter (p : PortId) (ws : List Waiter) : List Waiter := ws.filter fun w => decide (w.port ≠ p)

/-- Removes the entry of port `p` from the list of lock `l`; state, holder and lease stay (R8). -/
def removeWaiter (l : LockId) (p : PortId) : State → State :=
  modLock l fun r => { r with waiters := dropWaiter p r.waiters }

/-- Writes the request record of port `p` (R10). -/
def writeRequest (p : PortId) (q : RequestRecord) : State → State := modLockPort p fun r => { r with request := q }

/-- A port becomes a waiter: its entry carries its current rank, and its record is WAITING (R3, R17, R78). -/
def enterWait (l : LockId) (p : PortId) (k : WaitKind) (patience : Ticks) (s : State) : State :=
  let w : Waiter := { port := p, kind := k, patience := Countdown.load patience, rank := s.rank p }
  s |> modLock l (fun r => { r with waiters := insertWaiter r.policy w r.waiters })
    |> writeRequest p (.waiting l k)

/-- A grant: HELD by the port, with the lease loaded from the lease period in effect (R22, R40). -/
def grantLock (l : LockId) (p : PortId) : State → State :=
  modLock l fun r => { r with state := .held p, lease := Countdown.load r.leasePeriod }

/-- The held access of port `p` is rechecked in full and ends: the access is made, or it ends with the fault of the
step that failed; there is no second claim (R82, R83). No held access, no recheck (R85). -/
def recheckHeld (p : PortId) (s : State) : State :=
  match (s.port p).held with
  | none => s
  | some h =>
    let t := setHeld p none s
    match s.check p h.access.type h.address with
    | .permitted => completeAccess p h.access h.address t
    | .noStore => refuseAccess p h.access h.address .noStore none none t
    | .rights d => refuseAccess p h.access h.address .rights d none t
    | .guarded d l _ => refuseAccess p h.access h.address .guard (some d) (some l) t

/-- A handover of lock `l`: to FREE with an empty list, otherwise to the head waiter, whose record becomes GRANTED
with LOCK_OUTCOME set, and whose held access is rechecked when the entry is a CLAIM (R23). -/
def handover (l : LockId) (s : State) : State :=
  match (s.lock l).waiters with
  | [] => modLock l (fun r => { r with state := .free, lease := .stopped }) s
  | w :: ws =>
    let t := s |> modLock l (fun r => { r with waiters := ws })
               |> grantLock l w.port
               |> writeRequest w.port (.granted l w.kind)
               |> setCause w.port .lockOutcome
    if w.kind = .claim then recheckHeld w.port t else t

/-- The one bit of a lock in a set of locks. -/
def lockBit (l : LockId) : BitVec 32 := (1 : BitVec 32) <<< l.val

/-- A revocation of lock `l` from its former holder: the revoked set, the REVOKED cause, then the handover (R24). -/
def revoke (l : LockId) (h : PortId) (s : State) : State :=
  s |> modLockPort h (fun r => { r with revoked := r.revoked ||| lockBit l })
    |> setCause h .revoked
    |> handover l

end Sys2Proof.Machine
end

