-- ==== Sys2Proof/Machine/LockCommands.lean ====
section
/-! DEFINITION. The lock commands of LOCK_CMD: TAKE, WAIT, RELEASE, CANCEL, RENEW and FORCE_RELEASE (R15 to R21), and
LOCK_SEL and LOCK_CFG (R26, R187, R211). -/

namespace Sys2Proof.Machine

/-- LOCK_RESULT takes an outcome and a lock number, and the cycle completes without error (R15). -/
def answerLock (p : PortId) (o : LockOutcome) (l : LockId) (s : State) : State :=
  s |> modLockPort p (fun r => { r with result := { outcome := o, lock := l } }) |> done p none

/-- TAKE (R16). -/
def lockTake (p : PortId) (l : LockId) (s : State) : State :=
  match (s.lock l).state with
  | .held h => answerLock p (if h = p then .refusedAlreadyHeld else .busy) l s
  | .orphaned => answerLock p .busy l s
  | .free =>
    if Config.holdMax ≤ s.holdCount p then answerLock p .refusedHoldLimit l s
    else s |> grantLock l p |> answerLock p .granted l

/-- WAIT (R17). -/
def lockWait (p : PortId) (l : LockId) (patience : Ticks) (s : State) : State :=
  if (s.port p).lock.request.isWaiting then answerLock p .refusedRequestPending l s
  else if (s.lock l).state = .held p then answerLock p .refusedAlreadyHeld l s
  else if Config.holdMax ≤ (s.heldLocks p).length then answerLock p .refusedHoldLimit l s
  else if (s.lock l).state = .free then
    s |> grantLock l p |> writeRequest p (.granted l .explicit) |> setCause p .lockOutcome
      |> answerLock p .granted l
  else s |> enterWait l p .explicit patience |> answerLock p .pending l

/-- RELEASE (R18). -/
def lockRelease (p : PortId) (l : LockId) (s : State) : State :=
  if (s.lock l).state = .held p then s |> handover l |> answerLock p .released l
  else answerLock p .refusedNotHolder l s

/-- CANCEL (R19): the lock of the removed entry shows in LOCK_RESULT (R15). -/
def lockCancel (p : PortId) (l : LockId) (s : State) : State :=
  match (s.port p).lock.request with
  | .waiting m k =>
    s |> removeWaiter m p |> writeRequest p (.cancelled m k) |> setCause p .lockOutcome
      |> answerLock p .cancelled m
  | _ => answerLock p .refusedNoRequest l s

/-- RENEW (R20): a lease period of 0 leaves the record as it is. -/
def lockRenew (p : PortId) (l : LockId) (s : State) : State :=
  if (s.lock l).state = .held p then
    if (s.lock l).leasePeriod = 0 then answerLock p .renewed l s
    else s |> modLock l (fun r => { r with lease := Countdown.load r.leasePeriod }) |> answerLock p .renewed l
  else answerLock p .refusedNotHolder l s

/-- FORCE_RELEASE (R21, R216). -/
def lockForce (p : PortId) (l : LockId) (s : State) : State :=
  if p ≠ s.configPort then answerLock p .refusedPrivilege l s
  else
    match (s.lock l).state with
    | .held h =>
      if h = p then s |> handover l |> answerLock p .forced l
      else s |> revoke l h |> answerLock p .forced l
    | .orphaned => s |> handover l |> answerLock p .forced l
    | .free => answerLock p .notHeld l s

/-- LOCK_SEL is judged on the whole word (R211). -/
def writeLockSel (p : PortId) (w : Word) (s : State) : State :=
  if 31 < w.toNat then badValue p .lockSel w s
  else s |> modLockPort p (fun r => { r with sel := lockOf (w.extractLsb' 0 5) }) |> done p none

/-- LOCK_CFG: BAD_STATE when it changes the policy of a lock whose wait list is not empty, otherwise both fields are
replaced (R187). A change of the lease period leaves a running lease (R43). -/
def writeLockCfg (p : PortId) (w : Word) : State → State :=
  configWrite p .lockCfg w fun s =>
    let l := (s.port p).lock.sel
    if policyOf w ≠ (s.lock l).policy ∧ (s.lock l).waiters ≠ [] then
      refuseCycle p .badState (cycleAt .lockCfg (.write w)) none (some l) s
    else s |> modLock l (fun r => { r with policy := policyOf w, leasePeriod := periodOf w }) |> done p none

end Sys2Proof.Machine
end

