-- ==== Sys2Proof/Machine/Timebase.lean ====
section
/-! DEFINITION. The timebase and the expiries at the lock table (R35 to R46), and the configuration values TICK,
HOLD_LIMIT, FAIL_WORD, ORPHAN and RANKS (R36, R47, R71, R185, R186). -/

namespace Sys2Proof.Machine

/-- One tick at a lock record: its lease and the patience of every entry are decremented (R35, R38). -/
def LockRecord.tick (r : LockRecord) : LockRecord :=
  { r with lease := r.lease.tick, waiters := r.waiters.map fun w => { w with patience := w.patience.tick } }

/-- One tick at a hold list (R35, R38). -/
def MessagePortRecord.tick (m : MessagePortRecord) : MessagePortRecord :=
  { m with holdList := m.holdList.map fun e => { e with hold := e.hold.tick } }

/-- A tick event: the interval in progress ends, the next begins at the current TICK, and every running countdown is
decremented by one; a count that reaches 0 makes its expiry due (R35, R37, R38). -/
def tickAll (s : State) : State :=
  { s with
    interval := s.tick
    locks := s.locks.map LockRecord.tick
    ports := s.ports.map fun r => { r with msg := r.msg.tick } }

/-- Lease expiry of lock `l`: its holder suffers a revocation, and the lock is handed over. Without a due lease
there is no expiry (R42). -/
def expireLease (l : LockId) (s : State) : State :=
  match (s.lock l).state, (s.lock l).lease with
  | .held h, .due => revoke l h s
  | _, _ => s

/-- The entry of port `p` in the list of lock `l`. -/
def LockRecord.waiterOf (r : LockRecord) (p : PortId) : Option Waiter :=
  r.waiters.find? fun w => decide (w.port = p)

/-- The held access of port `p` ends at patience expiry with HOLD_EXPIRED; once the port has detached there is none,
and neither nERR nor a record is given (R84). -/
def endHeldExpired (p : PortId) (s : State) : State :=
  match (s.port p).held with
  | none => s
  | some h => s |> setHeld p none |> refuseAccess p h.access h.address .holdExpired (some h.desc) (some h.lock)

/-- Patience expiry of the entry of port `p` at lock `l`: the entry is removed, the record becomes TIMED_OUT with
LOCK_OUTCOME set, and a held claim ends. Without a due patience there is no expiry (R45, R84). -/
def expirePatience (l : LockId) (p : PortId) (s : State) : State :=
  match (s.lock l).waiterOf p with
  | none => s
  | some w =>
    if w.patience = .due then
      let t := s |> removeWaiter l p |> writeRequest p (.timedOut l w.kind) |> setCause p .lockOutcome
      if w.kind = .claim then endHeldExpired p t else t
    else s

/-- TICK: 1 to 4095 (R36). -/
def writeTick (p : PortId) (w : Word) : State → State :=
  configWrite p .tick w fun s =>
    if 1 ≤ w.toNat ∧ w.toNat ≤ Config.tickMax then { s with tick := w } |> done p none
    else badValue p .tick w s

/-- HOLD_LIMIT: 1 to 255 (R47). -/
def writeHoldLimit (p : PortId) (w : Word) : State → State :=
  configWrite p .holdLimit w fun s =>
    if 1 ≤ w.toNat ∧ w.toNat ≤ 255 then { s with holdLimit := w.extractLsb' 0 8 } |> done p none
    else badValue p .holdLimit w s

/-- FAIL_WORD: every value (R71). -/
def writeFailWord (p : PortId) (w : Word) : State → State :=
  configWrite p .failWord w fun s => { s with failWord := w } |> done p none

/-- ORPHAN: both policies (R186). -/
def writeOrphan (p : PortId) (w : Word) : State → State :=
  configWrite p .orphan w fun s => { s with orphan := orphanOf w } |> done p none

/-- RANKS: all four ranks together (R185). -/
def writeRanks (p : PortId) (w : Word) : State → State :=
  configWrite p .ranks w fun s => { s with ranks := byteField w } |> done p none

end Sys2Proof.Machine
end

