-- ==== Sys2Proof/Machine/StoreAccess.lean ====
section
/-! DEFINITION. The access engine's registers, the store requests of DATA, XCHG and FADD, the claim procedure, and the
store arbiter's rotation grant (Chapters 4 and 5). -/

namespace Sys2Proof.Machine

/-! ### The access engine -/

/-- PTR takes every value (R97). -/
def writePtr (p : PortId) (w : Word) (s : State) : State :=
  s |> modEngine p (fun e => { e with ptr := w }) |> done p none

/-- OPND takes every value (R97). -/
def writeOpnd (p : PortId) (w : Word) (s : State) : State :=
  s |> modEngine p (fun e => { e with opnd := w }) |> done p none

/-- STEP: −128 to +127, otherwise BAD_VALUE (R98). -/
def writeStep (p : PortId) (w : Word) (s : State) : State :=
  if stepAccepted w then s |> modEngine p (fun e => { e with step := w.extractLsb' 0 8 }) |> done p none
  else badValue p .step w s

/-- A store request waits at the access engine, and the cycle stays open with RDY low (R99, R100). -/
def requestStore (p : PortId) (a : HostAccess) (s : State) : State :=
  s |> modEngine p (fun e => { e with request := some a }) |> modBus p (fun b => { b with phase := .store })

/-! ### The arbiter's rotation -/

/-- The five requesters in rotation order after a position (R106, R107). -/
def rotationAfter : Requester → List Requester
  | .port 0 => [.port 1, .port 2, .port 3, .copyEngine, .port 0]
  | .port 1 => [.port 2, .port 3, .copyEngine, .port 0, .port 1]
  | .port 2 => [.port 3, .copyEngine, .port 0, .port 1, .port 2]
  | .port 3 => [.copyEngine, .port 0, .port 1, .port 2, .port 3]
  | .copyEngine => [.port 0, .port 1, .port 2, .port 3, .copyEngine]

/-- A requester has a request at the arbiter (R100, R111). -/
def State.requests (s : State) : Requester → Bool
  | .port p => (s.port p).engine.request.isSome
  | .copyEngine => s.copyWord.isSome

/-- The requester that the next rotation grant goes to: the first that waits, in rotation order after the rotation
position (R107). -/
def State.nextGrant (s : State) : Option Requester := (rotationAfter s.rotation).find? s.requests

/-! ### The claim procedure (R74 to R78) -/

/-- A claim that enters the wait list makes the access the port's held access (R78, R79). -/
def holdAccess (p : PortId) (a : HostAccess) (addr : Word) (d : DescId) (l : LockId) (s : State) : State :=
  s |> enterWait l p .claim s.holdLimit
    |> setHeld p (some { access := a, address := addr, lock := l, desc := d })
    |> modBus p (fun b => { b with phase := .claim })

/-- The claim procedure, answered by the first case that applies (R74). -/
def claim (p : PortId) (a : HostAccess) (addr : Word) (d : DescId) (l : LockId) (s : State) : State :=
  if (s.port p).lock.request.isWaiting then refuseAccess p a addr .claimConflict (some d) (some l) s
  else if Config.holdMax ≤ (s.heldLocks p).length then refuseAccess p a addr .holdLimit (some d) (some l) s
  else if (s.lock l).state = .free then
    s |> grantLock l p |> writeRequest p (.granted l .claim) |> setCause p .lockOutcome
      |> completeAccess p a addr
  else holdAccess p a addr d l s

/-- The check of a granted host access at PTR, with the access, the refusal or the claim that follows (R64, R108). -/
def serveAccess (p : PortId) (a : HostAccess) (s : State) : State :=
  let addr := (s.port p).engine.ptr
  match s.check p a.type addr with
  | .permitted => completeAccess p a addr s
  | .noStore => refuseAccess p a addr .noStore none none s
  | .rights d => refuseAccess p a addr .rights d none s
  | .guarded d l true => claim p a addr d l s
  | .guarded d l false => refuseAccess p a addr .guard (some d) (some l) s

/-- A rotation grant to port `p`: the position moves, the request leaves the arbiter and is served (R100, R106,
R108). -/
def grantPort (p : PortId) (s : State) : State :=
  match (s.port p).engine.request with
  | none => s
  | some a =>
    { s with rotation := .port p } |> modEngine p (fun e => { e with request := none }) |> serveAccess p a

/-- The arbiter grants the host request that is next in rotation; when no request waits, or the copy engine is next,
no host grant is made (R107). -/
def grantNext (s : State) : State :=
  match s.nextGrant with
  | some (.port p) => grantPort p s
  | _ => s

end Sys2Proof.Machine
end

