-- ==== Sys2Proof/Machine/Messages.lean ====
section
/-! DEFINITION. The message unit: staging, SEND and DISCARD, admission, receiving, POP and FLUSH with the drain of the
hold list, and the expiry of a held send (Chapter 6). -/

namespace Sys2Proof.Machine

/-! ### Admission -/

/-- The message unit counts port `q` as attached: until its teardown of `q` (R195). -/
def State.countsAttached (s : State) (q : PortId) : Bool :=
  let a := (s.port q).attach
  a.attached || (a.pending && !a.messagesDown)

/-- A message of length `n` fits in the free words of the queue (R122). -/
def fits (n : Nat) (queue : List Message) : Bool := decide (wordsUsed queue + wordsFor n ≤ Config.queueWords)

/-- The conditions under which an arriving message of length `n` is admitted to the queue of `q` (R122). -/
def State.admits (s : State) (q : PortId) (n : Nat) : Bool :=
  s.countsAttached q && (s.port q).msg.holdList.isEmpty && fits n (s.port q).msg.queue

/-- An URGENT message goes after the URGENT messages at the front of the list (R121). -/
def insertUrgent (m : Message) (queue : List Message) : List Message :=
  queue.takeWhile (fun x => decide (x.cls = .urgent)) ++ m :: queue.dropWhile (fun x => decide (x.cls = .urgent))

/-- The queue with an admitted message in its place by class; an opened front message keeps the front (R121). -/
def insertMessage (opened : Bool) (m : Message) (queue : List Message) : List Message :=
  match m.cls with
  | .normal => queue ++ [m]
  | .urgent =>
    match opened, queue with
    | true, x :: xs => x :: insertUrgent m xs
    | _, _ => insertUrgent m queue

/-- The cause an admission sets at the destination (R121). -/
def arrivalCause : MsgClass → Cause
  | .normal => .msgArrived
  | .urgent => .msgUrgent

/-- An admission to the queue of `q`: the message in its place, and the arrival cause (R121). -/
def admitMessage (q : PortId) (m : Message) (s : State) : State :=
  s |> modMsg q (fun r => { r with queue := insertMessage r.opened m r.queue }) |> setCause q (arrivalCause m.cls)

/-! ### Endings of a send -/

/-- SEND_RESULT takes an outcome and a destination (R118). -/
def setSendResult (p : PortId) (o : SendOutcome) (q : PortId) : State → State :=
  modMsg p fun r => { r with outcome := o, dest := q }

/-- The held send's cycle of port `p` completes without nERR, unless the port's detach event has already ended it
(R136, R138, R140, R141). -/
def finishSend (p q : PortId) (s : State) : State :=
  if (s.port p).bus.phase = .send q then done p none s else s

/-- A held send leaves the list of `q` by admission (R136). -/
def admitHeld (q : PortId) (e : HoldEntry) (s : State) : State :=
  let m : Message := { sender := e.sender, cls := e.cls, origin := .host, tag := e.tag,
                       payload := (s.port e.sender).msg.staging }
  s |> admitMessage q m
    |> modMsg e.sender (fun r => { r with staging := [] })
    |> setSendResult e.sender .sent q
    |> finishSend e.sender q

/-- The drain over the entries of the hold list of `q`: while the head fits, it is admitted; it stops at the first
head that does not fit (R136). -/
def drainEntries (q : PortId) : List HoldEntry → State → State
  | [], s => modMsg q (fun r => { r with holdList := [] }) s
  | e :: es, s =>
    if fits e.length (s.port q).msg.queue then
      drainEntries q es (admitHeld q e (modMsg q (fun r => { r with holdList := es }) s))
    else modMsg q (fun r => { r with holdList := e :: es }) s

/-- The drain of the hold list of `q` (R136). -/
def drain (q : PortId) (s : State) : State := drainEntries q (s.port q).msg.holdList s

/-- The hold list without the entry of a sender. -/
def dropEntry (p : PortId) (es : List HoldEntry) : List HoldEntry := es.filter fun e => decide (e.sender ≠ p)

/-- The entry of sender `p` leaves the hold list of `q`, and the list is drained when it was the head (R136, R138,
R141). -/
def removeEntry (q p : PortId) (s : State) : State :=
  let es := (s.port q).msg.holdList
  let t := modMsg q (fun r => { r with holdList := dropEntry p es }) s
  match es with
  | [] => t
  | e :: _ => if e.sender = p then drain q t else t

/-! ### Commands -/

/-- OUT_DATA: a word is appended, or STAGING_OVERFLOW when six are staged (R116). -/
def writeOutData (p : PortId) (w : Word) (s : State) : State :=
  if (s.port p).msg.staging.length < Config.stagingMax then
    s |> modMsg p (fun r => { r with staging := r.staging ++ [w] }) |> done p none
  else refuseCycle p .stagingOverflow (cycleAt .outData (.write w)) none none s

/-- The class a SEND word names. -/
def classOf (urgent : Bool) : MsgClass := if urgent then .urgent else .normal

/-- A send that is not held ends with an outcome in SEND_RESULT and without nERR (R123). -/
def answerSend (p : PortId) (o : SendOutcome) (q : PortId) (s : State) : State :=
  s |> setSendResult p o q |> done p none

/-- A held send joins the end of the destination's hold list, and the cycle stays open (R125). -/
def holdSend (p q : PortId) (cls : MsgClass) (tag : BitVec 8) (s : State) : State :=
  let e : HoldEntry := { sender := p, cls := cls, tag := tag, length := (s.port p).msg.staging.length,
                         hold := Countdown.load s.holdLimit }
  s |> modMsg q (fun r => { r with holdList := r.holdList ++ [e] })
    |> modBus p (fun b => { b with phase := .send q })

/-- SEND, answered by the first case that applies (R123, R124). -/
def sendMessage (p q : PortId) (urgent hold : Bool) (tag : BitVec 8) (s : State) : State :=
  let staged := (s.port p).msg.staging
  if !s.countsAttached q then answerSend p .detached q s
  else if s.admits q staged.length then
    let m : Message := { sender := p, cls := classOf urgent, origin := .host, tag := tag, payload := staged }
    s |> admitMessage q m |> modMsg p (fun r => { r with staging := [] }) |> answerSend p .sent q
  else if !hold || p == q then answerSend p .full q s
  else holdSend p q (classOf urgent) tag s

/-- DISCARD empties the staging buffer (R117). -/
def discardStaging (p : PortId) (s : State) : State :=
  s |> modMsg p (fun r => { r with staging := [] }) |> done p none

/-- A read of IN_HEAD opens the front message with read index 0 and returns its header; 0x0000 on an empty queue
(R129). -/
def readInHead (p : PortId) (s : State) : State :=
  match (s.port p).msg.queue with
  | [] => done p (some 0) s
  | m :: _ => s |> modMsg p (fun r => { r with opened := true, readIndex := 0 }) |> done p (some (headerWord m))

/-- A read of IN_DATA opens the front message if needed, returns the payload word at the read index and advances the
index; at the end of the payload, and on an empty queue, it returns 0x0000 (R130). -/
def readInData (p : PortId) (s : State) : State :=
  match (s.port p).msg.queue with
  | [] => done p (some 0) s
  | m :: _ =>
    let i := if (s.port p).msg.opened then (s.port p).msg.readIndex else 0
    match m.payload[i]? with
    | some w => s |> modMsg p (fun r => { r with opened := true, readIndex := i + 1 }) |> done p (some w)
    | none => s |> modMsg p (fun r => { r with opened := true, readIndex := i }) |> done p (some 0)

/-- POP removes the front message whole and drains the hold list; on an empty queue it changes nothing (R133). -/
def popMessage (p : PortId) (s : State) : State :=
  match (s.port p).msg.queue with
  | [] => done p none s
  | _ :: ms =>
    s |> modMsg p (fun r => { r with queue := ms, opened := false, readIndex := 0 }) |> drain p |> done p none

/-- FLUSH removes every message and drains the hold list (R134). -/
def flushMessages (p : PortId) (s : State) : State :=
  s |> modMsg p (fun r => { r with queue := [], opened := false, readIndex := 0 }) |> drain p |> done p none

/-- The expiry of the send of `p` held on the hold list of `q`: FULL, the staging kept, and a drain when the entry was
the head. Without a due entry there is no expiry (R138). -/
def expireHold (q p : PortId) (s : State) : State :=
  match (s.port q).msg.holdList.find? fun e => decide (e.sender = p) with
  | none => s
  | some e =>
    if e.hold = .due then s |> setSendResult p .full q |> finishSend p q |> removeEntry q p else s

end Sys2Proof.Machine
end

