-- ==== Sys2Proof/Machine/CopyEngine.lean ====
section
/-! DEFINITION. The copy engine: parameters, START and CANCEL, the two halves of a word, the ending of a job and its
notice (Chapter 7). -/

namespace Sys2Proof.Machine

/-! ### The job queue -/

/-- The head job is RUNNING (R147, R148). -/
def promote : List Job → List Job
  | [] => []
  | j :: js => { j with state := .running } :: js

/-- The word record of a job that becomes RUNNING: word 0, SOURCE; none when no job runs (R148, R149). -/
def firstWord : List Job → Option WordRecord
  | [] => none
  | _ :: _ => some { index := 0, phase := .source }

/-- The job of port `p` leaves the queue, without an ending; when it was the head, the next job becomes RUNNING, and
its request at the arbiter is withdrawn with the word record (R148, R155, R163). -/
def removeJob (p : PortId) (s : State) : State :=
  match s.jobs with
  | [] => s
  | j :: js =>
    if j.requester = p then { s with jobs := promote js, copyWord := firstWord js }
    else { s with jobs := j :: js.filter fun k => decide (k.requester ≠ p) }

/-- The direction of a job with source `src`, destination `dst` and count `n` (R146). -/
def directionOf (src dst n : Nat) : Direction :=
  if src < dst ∧ dst < src + n then .descending else .ascending

/-- The offset of word `i` within its block (Table 7-2). -/
def Job.offset (j : Job) (i : Nat) : Nat :=
  match j.direction with
  | .ascending => i
  | .descending => j.count - 1 - i

/-- The source address of word `i` (Table 7-2). -/
def Job.sourceAt (j : Job) (i : Nat) : Word := j.source + BitVec.ofNat 16 (j.offset i)

/-- The destination address of word `i` (Table 7-2). -/
def Job.destinationAt (j : Job) (i : Nat) : Word := j.destination + BitVec.ofNat 16 (j.offset i)

/-! ### Parameters -/

/-- COPY_COUNT: 0 to 4095 (R143). -/
def writeCopyCount (p : PortId) (w : Word) (s : State) : State :=
  if w.toNat ≤ Config.copyCountMax then s |> modCopy p (fun c => { c with count := w }) |> done p none
  else badValue p .copyCount w s

/-- COPY_SRC takes every value (R143). -/
def writeCopySrc (p : PortId) (w : Word) (s : State) : State :=
  s |> modCopy p (fun c => { c with src := w }) |> done p none

/-- COPY_DST takes every value (R143). -/
def writeCopyDst (p : PortId) (w : Word) (s : State) : State :=
  s |> modCopy p (fun c => { c with dst := w }) |> done p none

/-- COPY_NOTICE takes every value (R143). -/
def writeCopyNotice (p : PortId) (w : Word) (s : State) : State :=
  s |> modCopy p (fun c => { c with noticeFlag := w.getLsbD 15, notice := noticeOf w }) |> done p none

/-! ### START -/

/-- A submission that is not accepted writes the submission result alone (R145). -/
def answerStart (p : PortId) (r : Submission) (s : State) : State :=
  s |> modCopy p (fun c => { c with submission := r }) |> done p none

/-- The job that an accepted START makes (R145, R146), RUNNING when the queue is empty (R148). -/
def newJob (p : PortId) (c : CopyPortRecord) (queueEmpty : Bool) : Job :=
  { requester := p, source := c.src, destination := c.dst, count := c.count.toNat,
    direction := directionOf c.src.toNat c.dst.toNat c.count.toNat,
    notice := if c.noticeFlag then some c.notice else none,
    state := if queueEmpty then .running else .queued, moved := 0, cancelMarked := false }

/-- An accepted START replaces every field of COPY_STATUS and appends the job (R145, R147, R161). -/
def acceptJob (p : PortId) (s : State) : State :=
  let c := (s.port p).copy
  let j := newJob p c s.jobs.isEmpty
  { s with jobs := s.jobs ++ [j], copyWord := if s.jobs.isEmpty then firstWord [j] else s.copyWord }
    |> modCopy p (fun c => { c with submission := .accepted, jobState := j.state, fault := .none,
                                    noticeOutcome := if c.noticeFlag then .pending else .none, moved := 0 })
    |> done p none

/-- START, answered by the first case that applies (R145). -/
def startJob (p : PortId) (s : State) : State :=
  let c := (s.port p).copy
  if (s.jobOf p).isSome then answerStart p .busy s
  else if c.count = 0 then answerStart p .badCount s
  else if Config.storeWords < c.src.toNat + c.count.toNat ∨ Config.storeWords < c.dst.toNat + c.count.toNat then
    answerStart p .badRange s
  else acceptJob p s

/-! ### The ending of a job -/

/-- Payload word 0 of a notice: the ending state in bits 15–13 and the fault kind in bits 12–11 (R158). -/
def noticeHead (final : JobState) (fk : JobFault) : Word :=
  jobStateCode final ++ jobFaultCode fk ++ (0 : BitVec 11)

/-- The notice message of an ended job (R158). -/
def noticeMessage (j : Job) (tag : BitVec 8) (final : JobState) (fk : JobFault) : Message :=
  { sender := j.requester, cls := .normal, origin := .copy, tag := tag,
    payload := [noticeHead final fk, BitVec.ofNat 16 j.moved] }

/-- The notice is offered to the notice port's queue and its outcome written to COPY_STATUS (R159). -/
def postNotice (j : Job) (final : JobState) (fk : JobFault) (s : State) : State :=
  match j.notice with
  | none => s
  | some n =>
    if s.admits n.port 2 then
      s |> admitMessage n.port (noticeMessage j n.tag final fk)
        |> modCopy j.requester (fun c => { c with noticeOutcome := .posted })
    else modCopy j.requester (fun c => { c with noticeOutcome := .dropped }) s

/-- The ending of job `j`: its final values, COPY_END, the notice, and the next job (R153). -/
def endJob (j : Job) (final : JobState) (fk : JobFault) (s : State) : State :=
  s |> removeJob j.requester
    |> modCopy j.requester (fun c => { c with jobState := final, fault := fk, moved := j.moved })
    |> setCause j.requester .copyEnd
    |> postNotice j final fk

/-- CANCEL: a QUEUED job or one with no word in progress ends CANCELLED, one with a word in progress is marked, and
without a job nothing changes (R154 to R156). -/
def cancelJob (p : PortId) (s : State) : State :=
  match s.jobs with
  | [] => done p none s
  | j :: js =>
    if j.requester = p then
      match s.copyWord with
      | some ⟨_, .destination _⟩ =>
        { s with jobs := { j with cancelMarked := true } :: js } |> done p none
      | _ => s |> endJob j .cancelled .none |> done p none
    else
      match js.find? fun k => decide (k.requester = p) with
      | none => done p none s
      | some k => s |> endJob k .cancelled .none |> done p none

/-! ### The two halves of a word -/

/-- A copy half whose check refuses: a fault record with source COPY, no nERR, and the job ends FAULTED (R152). -/
def faultJob (j : Job) (t : AccessType) (addr : Word) (k : FaultKind) (fk : JobFault) (d : Option DescId)
    (l : Option LockId) (s : State) : State :=
  s |> offerFault j.requester { kind := k, source := .copy, access := t, address := addr, desc := d, lock := l }
    |> endJob j .faulted fk

/-- The source half of word `i` at its grant (R150). -/
def sourceHalf (j : Job) (i : Nat) (s : State) : Host.Outcome State Fault Refusal :=
  let addr := j.sourceAt i
  let t := { s with rotation := .copyEngine }
  match s.check j.requester .read addr with
  | .permitted => .next { t with copyWord := some { index := i, phase := .destination (s.word addr) } }
  | .noStore => .fault .copyWordUnbacked
  | .rights d => .next (faultJob j .read addr .rights .rights d none t)
  | .guarded d l _ => .next (faultJob j .read addr .guard .guard (some d) (some l) t)

/-- What follows a word written: the job ends when it is marked or the word was the last, otherwise the next source
read is presented (R151, R156). `j` is the job with the word counted. -/
def afterWord (j : Job) (js : List Job) (i : Nat) (s : State) : State :=
  let t := { s with jobs := j :: js }
  if j.cancelMarked then endJob j .cancelled .none t
  else if j.count ≤ i + 1 then endJob j .done .none t
  else { t with copyWord := some { index := i + 1, phase := .source } }

/-- The destination half of word `i` at its grant (R151, R152). -/
def destinationHalf (j : Job) (js : List Job) (i : Nat) (held : Word) (s : State) :
    Host.Outcome State Fault Refusal :=
  let addr := j.destinationAt i
  let t := { s with rotation := .copyEngine }
  match s.check j.requester .write addr with
  | .permitted => .next (t |> putWord addr held |> afterWord { j with moved := j.moved + 1 } js i)
  | .noStore => .fault .copyWordUnbacked
  | .rights d => .next (faultJob j .write addr .rights .rights d none t)
  | .guarded d l _ => .next (faultJob j .write addr .guard .guard (some d) (some l) t)

end Sys2Proof.Machine
end

