-- ==== Sys2Proof/Machine/Interrupts.lean ====
section
/-! DEFINITION. The writes of INT_CAUSE, INT_MASK, REVOKED_LO, REVOKED_HI and FAULT_CTRL (R14, R170, R171, R173,
R180). -/

namespace Sys2Proof.Machine

/-- The ones of an INT_CAUSE write that act: REVOKED is cleared only when the revoked set is empty (R171). -/
def clearable (revoked : BitVec 32) (ones : BitVec 7) : BitVec 7 :=
  if revoked = 0 then ones else ones &&& ~~~ causeBit .revoked

/-- INT_CAUSE, one position at a time (R170, R171). -/
def writeIntCause (p : PortId) (w : Word) (s : State) : State :=
  let ones := clearable (s.port p).lock.revoked (causesField w)
  s |> modIntr p (fun i => { i with causes := i.causes &&& ~~~ ones }) |> done p none

/-- INT_MASK: all seven enables (R173). -/
def writeIntMask (p : PortId) (w : Word) (s : State) : State :=
  s |> modIntr p (fun i => { i with mask := causesField w }) |> done p none

/-- Ones remove their locks from the revoked set (R14). -/
def clearRevoked (p : PortId) (ones : BitVec 32) (s : State) : State :=
  s |> modLockPort p (fun r => { r with revoked := r.revoked &&& ~~~ ones }) |> done p none

/-- The ones of a REVOKED_LO word as locks L0 to L15. -/
def lowOnes (w : Word) : BitVec 32 := (0 : BitVec 16) ++ w

/-- The ones of a REVOKED_HI word as locks L16 to L31. -/
def highOnes (w : Word) : BitVec 32 := w ++ (0 : BitVec 16)

/-- FAULT_CTRL POP (R180). -/
def popFault (p : PortId) (s : State) : State :=
  s |> modIntr p (fun i => { i with faults := i.faults.tail }) |> done p none

/-- FAULT_CTRL CLEAR_OVERRUN (R180). -/
def clearOverrunFlag (p : PortId) (s : State) : State :=
  s |> modIntr p (fun i => { i with overrun := false }) |> done p none

end Sys2Proof.Machine
end

