-- ==== Sys2Proof/Machine/Ports.lean ====
section
/-! DEFINITION. Port detach and reattach: the detach event and its three causes, the teardown events of the lock table,
the message unit and the copy engine, the completion event, and the two edges of nRST (Chapter 9). -/

namespace Sys2Proof.Machine

/-! ### The detach event -/

/-- The word a cycle returns when its port is detached by command while it is open: 0x0000 for a read (R85, R112). -/
def PortRecord.detachedData (r : PortRecord) : Option Word :=
  match r.bus.phase, r.engine.request, r.held with
  | .store, some a, _ => a.readData 0
  | .claim, _, some h => h.access.readData 0
  | _, _, _ => none

/-- The open cycle of a detaching port: by pin the bus goes into reset; by command a waiting request, a held access
or a held send ends as a cycle of a detached window (R85, R112, R141). A cycle that waits behind it is then taken by the
detached window (R208, R212; log entry 21). -/
def Bus.detach (reason : DetachReason) (data : Option Word) (b : Bus) : Bus :=
  match reason with
  | .pin => b.toReset
  | _ =>
    match b.phase with
    | .store => b.complete data false
    | .claim => b.complete data false
    | .send _ => b.complete data false
    | .idle => b

/-- The port's own part of its detach event: attach state, reason and flag, the held-access record, the waiting store
request, and the open cycle. Hold-list and waiter entries stay for the teardowns (R191). -/
def PortRecord.detach (reason : DetachReason) (r : PortRecord) : PortRecord :=
  { r with
    attach := { attached := false, reason := reason, pending := true, withdrawn := false, toRelease := [],
                messagesDown := false, copyDown := false }
    bus := r.bus.detach reason r.detachedData
    held := none
    engine := { r.engine with request := none } }

/-- The detach event of port `p` (R191). -/
def detachPort (p : PortId) (reason : DetachReason) : State → State := modPort p (PortRecord.detach reason)

/-- PORT_CMD DETACH (R188). -/
def detachCommand (p target : PortId) : State → State :=
  configWrite p .portCmd (detachWord target) fun s =>
    if target = p then badValue p .portCmd (detachWord target) s
    else if (s.port target).attach.attached then s |> detachPort target .command |> done p none
    else done p none s

/-- PORT_STATE LEAVE from an attached port: its cycle completes, and it is the port's detach event (R190). -/
def leavePort (p : PortId) (s : State) : State := s |> done p none |> detachPort p .leave

/-! ### The pins nPRST -/

/-- nPRSTp is asserted: the bus goes into reset; an attached port detaches with reason PIN, and a detached one takes
the reason PIN. While nRST is asserted the pin's level alone is kept (R189, R190, R203). -/
def assertPin (p : PortId) (s : State) : State :=
  if (s.port p).prst then s
  else
    let t := modPort p (fun r => { r with prst := true }) s
    if s.nrst then t
    else if (s.port p).attach.attached then detachPort p .pin t
    else t |> modAttach p (fun a => { a with reason := .pin }) |> modBus p Bus.toReset

/-- nPRSTp is released: a port detached by pin whose teardown is complete reattaches (R197). -/
def releasePin (p : PortId) (s : State) : State :=
  let a := (s.port p).attach
  let t := modPort p (fun r => { r with prst := false }) s
  if (s.port p).prst ∧ ¬ s.nrst ∧ ¬ a.attached ∧ a.reason = .pin ∧ ¬ a.pending then reattach p t else t

/-! ### Teardown -/

/-- A teardown event of port `p` is taken while its teardown is pending and the event is still to come. -/
def teardown (p : PortId) (toCome : AttachRecord → Bool) (f : State → State) (s : State) : State :=
  let a := (s.port p).attach
  if !s.nrst && !a.attached && a.pending && toCome a then f s else s

/-- The withdrawal: a WAITING port's entry is removed and its record becomes IDLE, without LOCK_OUTCOME, and the set
of locks to release is fixed (R193). -/
def withdraw (p : PortId) (s : State) : State :=
  let t :=
    match (s.port p).lock.request with
    | .waiting l _ => s |> removeWaiter l p |> writeRequest p .idle
    | _ => s
  modAttach p (fun a => { a with withdrawn := true, toRelease := s.heldLocks p }) t

/-- A release event at lock `l`: still HELD by `p`, it is handed over or becomes ORPHANED by the ORPHAN value that
stands at this event; otherwise nothing changes at it (R194). -/
def releaseHeld (p : PortId) (l : LockId) (s : State) : State :=
  let t := modAttach p (fun a => { a with toRelease := a.toRelease.filter fun m => decide (m ≠ l) }) s
  if (s.lock l).state = .held p then
    match s.orphan with
    | .handover => handover l t
    | .orphan => modLock l (fun r => { r with state := .orphaned, lease := .stopped }) t
  else t

/-- A send held on the list of `q` ends DETACHED (R140). -/
def endSendDetached (q : PortId) (s : State) (e : HoldEntry) : State :=
  s |> setSendResult e.sender .detached q |> finishSend e.sender q

/-- The message unit's teardown: the queue is emptied without a drain, the sends held on the port's list end DETACHED,
the port's own entry in another list is removed with a drain when it was the head, and staging and SEND_RESULT take
their reset values (R140, R141, R195). -/
def tearDownMessages (p : PortId) (s : State) : State :=
  let ended := (s.port p).msg.holdList.foldl (endSendDetached p) s
  let emptied := modMsg p (fun r => { r with queue := [], opened := false, readIndex := 0, holdList := [] }) ended
  let removed := allPorts.foldl (fun t q => if q ≠ p then removeEntry q p t else t) emptied
  removed |> modMsg p (fun r => { r with staging := [], outcome := .none, dest := 0 })
    |> modAttach p (fun a => { a with messagesDown := true })

/-- The copy engine's teardown: the port's job is removed without an ending (R163, R195). -/
def tearDownCopy (p : PortId) (s : State) : State :=
  s |> removeJob p |> modAttach p (fun a => { a with copyDown := true })

/-- Every teardown event of a port has been taken (R196). -/
def AttachRecord.allDown (a : AttachRecord) : Bool :=
  a.withdrawn && a.toRelease.isEmpty && a.messagesDown && a.copyDown

/-- The records that return to their reset values at the completion event (R196). -/
def PortRecord.toReset (r : PortRecord) : PortRecord :=
  { r with engine := Engine.reset, held := none, lock := LockPortRecord.reset, region := RegionPortRecord.reset,
           copy := CopyPortRecord.reset, intr := InterruptRecord.reset,
           attach := { r.attach with pending := false, withdrawn := false, toRelease := [],
                                     messagesDown := false, copyDown := false } }

/-- The completion event: the port's records take their reset values, the flag is cleared, PEER_CHANGE is set at the
other attached ports, and a port detached by pin whose pin is released reattaches in the same event (R196, R197). -/
def complete (p : PortId) (s : State) : State :=
  let t := s |> modPort p PortRecord.toReset |> peerChange p
  if (s.port p).attach.reason = .pin ∧ ¬ (s.port p).prst then reattach p t else t

/-! ### nRST -/

/-- A port at assertion of nRST: every record at its reset value; the levels that the board and the host drive at
nPRST and at the strobe stay. -/
def PortRecord.deviceReset (r : PortRecord) : PortRecord :=
  { PortRecord.reset with prst := r.prst, bus := { Bus.reset with strobe := r.bus.strobe } }

/-- nRST is asserted: every cycle, held access, held send and job ends, and every block takes its reset values; the
store keeps its contents (R86, R93, R113, R142, R164, R202). -/
def assertReset (s : State) : State :=
  { State.reset with
    ports := s.ports.map PortRecord.deviceReset
    store := s.store
    configPort := s.configPort
    nrst := true
    pending := s.pending }

/-- The number of the straps, CFGP1 in the higher place (R183). -/
def strapPort (cfgp1 cfgp0 : Bool) : PortId :=
  match cfgp1, cfgp0 with
  | false, false => 0
  | false, true => 1
  | true, false => 2
  | true, true => 3

/-- A port at release of nRST: ATTACHED, or DETACHED by PIN with nothing to tear down (R189, R202). -/
def PortRecord.resetReleased (r : PortRecord) : PortRecord :=
  if r.prst then { r with attach := { AttachRecord.attachedNow with attached := false, reason := .pin } }
  else { r with attach := AttachRecord.attachedNow }

/-- nRST is released: the straps are sampled, the first tick interval begins, and the ports attach by their pins
(R35, R183, R202). Without an asserted nRST there is no release. -/
def releaseReset (cfgp1 cfgp0 : Bool) (s : State) : State :=
  if s.nrst then
    { s with nrst := false, configPort := strapPort cfgp1 cfgp0, interval := s.tick,
             ports := s.ports.map PortRecord.resetReleased }
  else s

end Sys2Proof.Machine
end

