-- ==== Sys2Proof/Machine/Window.lean ====
section
/-! DEFINITION. The register window as one decoder: what a read or a write does at each of the 51 registers and at the
unassigned offsets (R209 to R212), the cycles that waited while another was open (R204, R208), and CYCLE_END (R205). -/

namespace Sys2Proof.Machine

/-- A read cycle of an attached window at a register (R204, R205, R209). -/
def readRegister (p : PortId) (r : Reg) (s : State) : State :=
  match r with
  | .data => requestStore p .read s
  | .xchg => requestStore p .xchg s
  | .fadd => requestStore p .fadd s
  | .inHead => readInHead p s
  | .inData => readInData p s
  | r => done p (some (registerValue s p r)) s

/-- A LOCK_CMD word; the codes 0 and 7 name no command (R15). -/
def writeLockCmd (p : PortId) (w : Word) : State → State :=
  match lockCode w with
  | 1 => lockTake p (lockCmdLock w)
  | 2 => lockWait p (lockCmdLock w) (lockCmdPatience w)
  | 3 => lockRelease p (lockCmdLock w)
  | 4 => lockCancel p (lockCmdLock w)
  | 5 => lockRenew p (lockCmdLock w)
  | 6 => lockForce p (lockCmdLock w)
  | _ => badValue p .lockCmd w

/-- A DESC_CMD word (R57, R58). -/
def writeDescCmd (p : PortId) (w : Word) : State → State :=
  match lowCode w with
  | 1 => loadDescriptor p
  | 2 => commitDescriptor p
  | _ => badValue p .descCmd w

/-- An OUT_CMD word (R117, R123). -/
def writeOutCmd (p : PortId) (w : Word) : State → State :=
  match highCode w with
  | 1 => sendMessage p (sendDest w) (sendUrgent w) (sendHold w) (sendTag w)
  | 2 => discardStaging p
  | _ => badValue p .outCmd w

/-- An IN_CTRL word (R133 to R135). -/
def writeInCtrl (p : PortId) (w : Word) : State → State :=
  match lowCode w with
  | 1 => popMessage p
  | 2 => flushMessages p
  | _ => badValue p .inCtrl w

/-- A COPY_CMD word (R145, R154). -/
def writeCopyCmd (p : PortId) (w : Word) : State → State :=
  match lowCode w with
  | 1 => startJob p
  | 2 => cancelJob p
  | _ => badValue p .copyCmd w

/-- A FAULT_CTRL word (R180). -/
def writeFaultCtrl (p : PortId) (w : Word) : State → State :=
  match lowCode w with
  | 1 => popFault p
  | 2 => clearOverrunFlag p
  | _ => badValue p .faultCtrl w

/-- A PORT_STATE word of an attached port (R190). -/
def writePortState (p : PortId) (w : Word) : State → State :=
  match lowCode w with
  | 1 => leavePort p
  | 2 => done p none
  | _ => badValue p .portState w

/-- A PORT_CMD word: PRIVILEGE from any port but the configuration port, then the command (R188). -/
def writePortCmd (p : PortId) (w : Word) : State → State :=
  match highCode w with
  | 1 => detachCommand p (portCmdPort w)
  | _ => configWrite p .portCmd w (badValue p .portCmd w)

/-- A write cycle of an attached window at a register; a write to a register that is only read is refused with
BAD_VALUE (R209). -/
def writeRegister (p : PortId) (r : Reg) (w : Word) : State → State :=
  match r with
  | .portId => badValue p .portId w
  | .portState => writePortState p w
  | .peers => badValue p .peers w
  | .intCause => writeIntCause p w
  | .intMask => writeIntMask p w
  | .faultHead => badValue p .faultHead w
  | .faultAddr => badValue p .faultAddr w
  | .faultLock => badValue p .faultLock w
  | .faultCtrl => writeFaultCtrl p w
  | .ptr => writePtr p w
  | .step => writeStep p w
  | .opnd => writeOpnd p w
  | .data => requestStore p (.write w)
  | .xchg => badValue p .xchg w
  | .fadd => badValue p .fadd w
  | .lockSel => writeLockSel p w
  | .lockCmd => writeLockCmd p w
  | .lockResult => badValue p .lockResult w
  | .waitState => badValue p .waitState w
  | .heldLo => badValue p .heldLo w
  | .heldHi => badValue p .heldHi w
  | .revokedLo => clearRevoked p (lowOnes w)
  | .revokedHi => clearRevoked p (highOnes w)
  | .lockView => badValue p .lockView w
  | .lockWaiters => badValue p .lockWaiters w
  | .lockCfg => writeLockCfg p w
  | .descSel => writeDescSel p w
  | .descBase => writeStaging p fun d => { d with base := w }
  | .descAttr => writeStaging p (withAttr w)
  | .descRights => writeStaging p fun d => { d with rights := byteField w }
  | .descCmd => writeDescCmd p w
  | .outData => writeOutData p w
  | .outCmd => writeOutCmd p w
  | .sendResult => badValue p .sendResult w
  | .inHead => badValue p .inHead w
  | .inData => badValue p .inData w
  | .inCtrl => writeInCtrl p w
  | .copySrc => writeCopySrc p w
  | .copyDst => writeCopyDst p w
  | .copyCount => writeCopyCount p w
  | .copyNotice => writeCopyNotice p w
  | .copyCmd => writeCopyCmd p w
  | .copyStatus => badValue p .copyStatus w
  | .copyMoved => badValue p .copyMoved w
  | .tick => writeTick p w
  | .holdLimit => writeHoldLimit p w
  | .failWord => writeFailWord p w
  | .orphan => writeOrphan p w
  | .ranks => writeRanks p w
  | .defaultRights => writeDefaultRights p w
  | .portCmd => writePortCmd p w

/-- A cycle of an attached window at a register. -/
def registerAccess (p : PortId) (r : Reg) : CycleOp → State → State
  | .read => readRegister p r
  | .write w => writeRegister p r w

/-- A cycle of an attached window: the register it decodes to, or UNASSIGNED at the offsets 0x66 to 0x7E
(R204, R210). -/
def windowAccess (p : PortId) (c : BusCycle) : State → State :=
  match regAt c.addr with
  | some r => registerAccess p r c.op
  | none => refuseCycle p .unassigned c none none

/-- A cycle of port `p` is taken by its window as the window stands: attached or detached. -/
def takeCycle (p : PortId) (c : BusCycle) (s : State) : State :=
  if (s.port p).attach.attached then windowAccess p c s else detachedCycle p c s

/-- A cycle of port `p` waits and nothing keeps it from being taken: the host holds its strobe, no earlier cycle is
open any more, and the bus is not in reset (R203, R204, R208). -/
def State.cycleDue (s : State) (p : PortId) : Bool :=
  !s.busInReset p && (s.port p).bus.strobe && (s.port p).bus.phase == .idle && (s.port p).bus.next.isSome

/-- The cycle of port `p` that waited behind an open one is sampled and taken (R204, R208). -/
def takeWaiting (p : PortId) (s : State) : State :=
  match (s.port p).bus.next with
  | some c => s |> modBus p (fun _ => Bus.begin) |> takeCycle p c
  | none => s

/-- Takes at most `n` waiting cycles, that of the lowest-numbered port first. DESIGN CHOICE: R214 leaves the order
among ports open (log entry 4). -/
def settleWithin : Nat → State → State
  | 0, s => s
  | n + 1, s =>
    match allPorts.find? s.cycleDue with
    | some p => settleWithin n (takeWaiting p s)
    | none => s

/-- The end of an event that completes cycles: every cycle that waited behind one of them is taken in the same event
(R204, R208). Taking one makes no further cycle wait at any port, and it may complete a cycle of another port, so at
most one is taken for each of the four ports. -/
def settle (s : State) : State := settleWithin 4 s

/-- The host ends its strobe: a completed cycle ends, with the data lines floated and nERR high; an open cycle stays
open inside the part without its strobe; a cycle that waits behind it is gone (R205, R206, R208; log entry 9). -/
def Bus.endCycle (b : Bus) : Bus :=
  if b.strobe then
    match b.phase with
    | .idle => { b with strobe := false, data := none, nerrLow := false }
    | _ => { b with strobe := false, next := none }
  else b

end Sys2Proof.Machine
end

