-- ==== Sys2Proof/Machine/Meanings.lean ====
section
/-! DEFINITION. The meaning of every command, one definition for each, over the operations of the chapters. A command
that can complete a cycle ends with `settle`: the cycles that waited for the completion are taken in the same event
(R204, R208). -/

namespace Sys2Proof.Machine

/-- A window cycle `c` of port `p` with the event `body`, and then the cycles that waited for what it completed. -/
def windowCommand (p : PortId) (c : BusCycle) (body : State → State) (s : State) : Host.Outcome State Fault Refusal :=
  .next (settle (hostCycle p c body s))

/-- An event `f` of the part that may complete cycles, and then the cycles that waited for them. -/
def eventCommand (f : State → State) (s : State) : Host.Outcome State Fault Refusal :=
  .next (settle (whileRunning f s))

/-! ### Lock commands and the lock registers (Chapter 1) -/

/-- LOCK_CMD TAKE (R16). -/
def execTake (p : PortId) (l : LockId) (s : State) : Host.Outcome State Fault Refusal :=
  windowCommand p (cycleAt .lockCmd (.write (lockCmdWord 1 l 0))) (lockTake p l) s

/-- LOCK_CMD WAIT (R17). -/
def execWait (p : PortId) (l : LockId) (patience : Ticks) (s : State) : Host.Outcome State Fault Refusal :=
  windowCommand p (cycleAt .lockCmd (.write (lockCmdWord 2 l patience))) (lockWait p l patience) s

/-- LOCK_CMD RELEASE (R18). -/
def execRelease (p : PortId) (l : LockId) (s : State) : Host.Outcome State Fault Refusal :=
  windowCommand p (cycleAt .lockCmd (.write (lockCmdWord 3 l 0))) (lockRelease p l) s

/-- LOCK_CMD CANCEL (R19). -/
def execCancel (p : PortId) (l : LockId) (s : State) : Host.Outcome State Fault Refusal :=
  windowCommand p (cycleAt .lockCmd (.write (lockCmdWord 4 l 0))) (lockCancel p l) s

/-- LOCK_CMD RENEW (R20). -/
def execRenew (p : PortId) (l : LockId) (s : State) : Host.Outcome State Fault Refusal :=
  windowCommand p (cycleAt .lockCmd (.write (lockCmdWord 5 l 0))) (lockRenew p l) s

/-- LOCK_CMD FORCE_RELEASE (R21). -/
def execForceRelease (p : PortId) (l : LockId) (s : State) : Host.Outcome State Fault Refusal :=
  windowCommand p (cycleAt .lockCmd (.write (lockCmdWord 6 l 0))) (lockForce p l) s

/-- LOCK_SEL_WRITE (R211). -/
def execLockSelWrite (p : PortId) (w : Word) (s : State) : Host.Outcome State Fault Refusal :=
  windowCommand p (cycleAt .lockSel (.write w)) (writeLockSel p w) s

/-- LOCK_CFG_WRITE (R187). -/
def execLockCfgWrite (p : PortId) (w : Word) (s : State) : Host.Outcome State Fault Refusal :=
  windowCommand p (cycleAt .lockCfg (.write w)) (writeLockCfg p w) s

/-! ### The timebase, expiries and configuration values (Chapters 2 and 9) -/

/-- TICK_EVENT (R35). -/
def execTickEvent (s : State) : Host.Outcome State Fault Refusal := .next (whileRunning tickAll s)

/-- LEASE_EXPIRY (R42). -/
def execLeaseExpiry (l : LockId) (s : State) : Host.Outcome State Fault Refusal :=
  eventCommand (expireLease l) s

/-- PATIENCE_EXPIRY (R45). -/
def execPatienceExpiry (l : LockId) (p : PortId) (s : State) : Host.Outcome State Fault Refusal :=
  eventCommand (expirePatience l p) s

/-- TICK_WRITE (R36). -/
def execTickWrite (p : PortId) (w : Word) (s : State) : Host.Outcome State Fault Refusal :=
  windowCommand p (cycleAt .tick (.write w)) (writeTick p w) s

/-- HOLD_LIMIT_WRITE (R47). -/
def execHoldLimitWrite (p : PortId) (w : Word) (s : State) : Host.Outcome State Fault Refusal :=
  windowCommand p (cycleAt .holdLimit (.write w)) (writeHoldLimit p w) s

/-- FAIL_WORD_WRITE (R71). -/
def execFailWordWrite (p : PortId) (w : Word) (s : State) : Host.Outcome State Fault Refusal :=
  windowCommand p (cycleAt .failWord (.write w)) (writeFailWord p w) s

/-- ORPHAN_WRITE (R186). -/
def execOrphanWrite (p : PortId) (w : Word) (s : State) : Host.Outcome State Fault Refusal :=
  windowCommand p (cycleAt .orphan (.write w)) (writeOrphan p w) s

/-- RANKS_WRITE (R185). -/
def execRanksWrite (p : PortId) (w : Word) (s : State) : Host.Outcome State Fault Refusal :=
  windowCommand p (cycleAt .ranks (.write w)) (writeRanks p w) s

/-! ### The region table (Chapter 3) -/

/-- DESC_SEL_WRITE (R55). -/
def execDescSelWrite (p : PortId) (w : Word) (s : State) : Host.Outcome State Fault Refusal :=
  windowCommand p (cycleAt .descSel (.write w)) (writeDescSel p w) s

/-- DESC_BASE_WRITE (R56). -/
def execDescBaseWrite (p : PortId) (w : Word) (s : State) : Host.Outcome State Fault Refusal :=
  windowCommand p (cycleAt .descBase (.write w)) (writeStaging p fun d => { d with base := w }) s

/-- DESC_ATTR_WRITE (R56). -/
def execDescAttrWrite (p : PortId) (w : Word) (s : State) : Host.Outcome State Fault Refusal :=
  windowCommand p (cycleAt .descAttr (.write w)) (writeStaging p (withAttr w)) s

/-- DESC_RIGHTS_WRITE (R56). -/
def execDescRightsWrite (p : PortId) (w : Word) (s : State) : Host.Outcome State Fault Refusal :=
  windowCommand p (cycleAt .descRights (.write w)) (writeStaging p fun d => { d with rights := byteField w }) s

/-- DESC_CMD LOAD (R57). -/
def execLoad (p : PortId) (s : State) : Host.Outcome State Fault Refusal :=
  windowCommand p (cycleAt .descCmd (.write 1)) (loadDescriptor p) s

/-- DESC_CMD COMMIT (R58 to R60). -/
def execCommit (p : PortId) (s : State) : Host.Outcome State Fault Refusal :=
  windowCommand p (cycleAt .descCmd (.write 2)) (commitDescriptor p) s

/-- DEFAULT_RIGHTS_WRITE (R54). -/
def execDefaultRightsWrite (p : PortId) (w : Word) (s : State) : Host.Outcome State Fault Refusal :=
  windowCommand p (cycleAt .defaultRights (.write w)) (writeDefaultRights p w) s

/-! ### The store access path (Chapters 4 and 5) -/

/-- PTR_WRITE (R97). -/
def execPtrWrite (p : PortId) (w : Word) (s : State) : Host.Outcome State Fault Refusal :=
  windowCommand p (cycleAt .ptr (.write w)) (writePtr p w) s

/-- OPND_WRITE (R97). -/
def execOpndWrite (p : PortId) (w : Word) (s : State) : Host.Outcome State Fault Refusal :=
  windowCommand p (cycleAt .opnd (.write w)) (writeOpnd p w) s

/-- STEP_WRITE (R98). -/
def execStepWrite (p : PortId) (w : Word) (s : State) : Host.Outcome State Fault Refusal :=
  windowCommand p (cycleAt .step (.write w)) (writeStep p w) s

/-- DATA_READ (R101). -/
def execDataRead (p : PortId) (s : State) : Host.Outcome State Fault Refusal :=
  windowCommand p (cycleAt .data .read) (requestStore p .read) s

/-- DATA_WRITE (R102). -/
def execDataWrite (p : PortId) (w : Word) (s : State) : Host.Outcome State Fault Refusal :=
  windowCommand p (cycleAt .data (.write w)) (requestStore p (.write w)) s

/-- XCHG_READ (R103). -/
def execXchgRead (p : PortId) (s : State) : Host.Outcome State Fault Refusal :=
  windowCommand p (cycleAt .xchg .read) (requestStore p .xchg) s

/-- FADD_READ (R104). -/
def execFaddRead (p : PortId) (s : State) : Host.Outcome State Fault Refusal :=
  windowCommand p (cycleAt .fadd .read) (requestStore p .fadd) s

/-- ROTATION_GRANT (R107, R108). -/
def execRotationGrant (s : State) : Host.Outcome State Fault Refusal := eventCommand grantNext s

/-! ### Messages (Chapter 6) -/

/-- OUT_DATA_WRITE (R116). -/
def execOutDataWrite (p : PortId) (w : Word) (s : State) : Host.Outcome State Fault Refusal :=
  windowCommand p (cycleAt .outData (.write w)) (writeOutData p w) s

/-- OUT_CMD SEND (R123). -/
def execSend (p dest : PortId) (urgent hold : Bool) (tag : BitVec 8) (s : State) :
    Host.Outcome State Fault Refusal :=
  windowCommand p (cycleAt .outCmd (.write (sendWord dest urgent hold tag)))
    (sendMessage p dest urgent hold tag) s

/-- OUT_CMD DISCARD (R117). -/
def execDiscard (p : PortId) (s : State) : Host.Outcome State Fault Refusal :=
  windowCommand p (cycleAt .outCmd (.write discardWord)) (discardStaging p) s

/-- IN_HEAD_READ (R129). -/
def execInHeadRead (p : PortId) (s : State) : Host.Outcome State Fault Refusal :=
  windowCommand p (cycleAt .inHead .read) (readInHead p) s

/-- IN_DATA_READ (R130). -/
def execInDataRead (p : PortId) (s : State) : Host.Outcome State Fault Refusal :=
  windowCommand p (cycleAt .inData .read) (readInData p) s

/-- IN_CTRL POP (R133). -/
def execPop (p : PortId) (s : State) : Host.Outcome State Fault Refusal :=
  windowCommand p (cycleAt .inCtrl (.write 1)) (popMessage p) s

/-- IN_CTRL FLUSH (R134). -/
def execFlush (p : PortId) (s : State) : Host.Outcome State Fault Refusal :=
  windowCommand p (cycleAt .inCtrl (.write 2)) (flushMessages p) s

/-- HOLD_EXPIRY (R138). -/
def execHoldExpiry (q p : PortId) (s : State) : Host.Outcome State Fault Refusal :=
  eventCommand (expireHold q p) s

/-! ### The copy engine (Chapter 7) -/

/-- COPY_SRC_WRITE (R143). -/
def execCopySrcWrite (p : PortId) (w : Word) (s : State) : Host.Outcome State Fault Refusal :=
  windowCommand p (cycleAt .copySrc (.write w)) (writeCopySrc p w) s

/-- COPY_DST_WRITE (R143). -/
def execCopyDstWrite (p : PortId) (w : Word) (s : State) : Host.Outcome State Fault Refusal :=
  windowCommand p (cycleAt .copyDst (.write w)) (writeCopyDst p w) s

/-- COPY_COUNT_WRITE (R143). -/
def execCopyCountWrite (p : PortId) (w : Word) (s : State) : Host.Outcome State Fault Refusal :=
  windowCommand p (cycleAt .copyCount (.write w)) (writeCopyCount p w) s

/-- COPY_NOTICE_WRITE (R143). -/
def execCopyNoticeWrite (p : PortId) (w : Word) (s : State) : Host.Outcome State Fault Refusal :=
  windowCommand p (cycleAt .copyNotice (.write w)) (writeCopyNotice p w) s

/-- COPY_CMD START (R145). -/
def execStart (p : PortId) (s : State) : Host.Outcome State Fault Refusal :=
  windowCommand p (cycleAt .copyCmd (.write 1)) (startJob p) s

/-- COPY_CMD CANCEL (R154). -/
def execCopyCancel (p : PortId) (s : State) : Host.Outcome State Fault Refusal :=
  windowCommand p (cycleAt .copyCmd (.write 2)) (cancelJob p) s

/-- SOURCE_READ (R150): the copy engine's request is next in rotation and the running job's word record is in phase
SOURCE; otherwise no such grant is made (R107, R148). -/
def execSourceRead (s : State) : Host.Outcome State Fault Refusal :=
  if s.nrst ∨ s.nextGrant ≠ some .copyEngine then .next s
  else
    match s.jobs, s.copyWord with
    | j :: _, some ⟨i, .source⟩ => sourceHalf j i s
    | _, _ => .next s

/-- DESTINATION_WRITE (R151): the copy engine's request is next in rotation and the word record is in phase
DESTINATION; otherwise no such grant is made (R107). -/
def execDestinationWrite (s : State) : Host.Outcome State Fault Refusal :=
  if s.nrst ∨ s.nextGrant ≠ some .copyEngine then .next s
  else
    match s.jobs, s.copyWord with
    | j :: js, some ⟨i, .destination held⟩ => destinationHalf j js i held s
    | _, _ => .next s

/-! ### Causes, the revoked set and the fault queue (Chapters 1 and 8) -/

/-- INT_CAUSE_WRITE (R170). -/
def execIntCauseWrite (p : PortId) (w : Word) (s : State) : Host.Outcome State Fault Refusal :=
  windowCommand p (cycleAt .intCause (.write w)) (writeIntCause p w) s

/-- INT_MASK_WRITE (R173). -/
def execIntMaskWrite (p : PortId) (w : Word) (s : State) : Host.Outcome State Fault Refusal :=
  windowCommand p (cycleAt .intMask (.write w)) (writeIntMask p w) s

/-- REVOKED_LO_WRITE (R14). -/
def execRevokedLoWrite (p : PortId) (w : Word) (s : State) : Host.Outcome State Fault Refusal :=
  windowCommand p (cycleAt .revokedLo (.write w)) (clearRevoked p (lowOnes w)) s

/-- REVOKED_HI_WRITE (R14). -/
def execRevokedHiWrite (p : PortId) (w : Word) (s : State) : Host.Outcome State Fault Refusal :=
  windowCommand p (cycleAt .revokedHi (.write w)) (clearRevoked p (highOnes w)) s

/-- FAULT_CTRL POP (R180). -/
def execFaultPop (p : PortId) (s : State) : Host.Outcome State Fault Refusal :=
  windowCommand p (cycleAt .faultCtrl (.write 1)) (popFault p) s

/-- FAULT_CTRL CLEAR_OVERRUN (R180). -/
def execClearOverrun (p : PortId) (s : State) : Host.Outcome State Fault Refusal :=
  windowCommand p (cycleAt .faultCtrl (.write 2)) (clearOverrunFlag p) s

/-! ### Detach, reattach, teardown and reset (Chapter 9) -/

/-- PORT_CMD DETACH (R188). -/
def execDetach (p target : PortId) (s : State) : Host.Outcome State Fault Refusal :=
  windowCommand p (cycleAt .portCmd (.write (detachWord target))) (detachCommand p target) s

/-- PORT_STATE LEAVE (R190); a detached window ignores it (R192). -/
def execLeave (p : PortId) (s : State) : Host.Outcome State Fault Refusal :=
  windowCommand p (cycleAt .portState (.write 1)) (leavePort p) s

/-- PORT_STATE JOIN: an attached port's JOIN changes nothing (R190); a detached window takes it as R197 gives
(detachedCycle). -/
def execJoin (p : PortId) (s : State) : Host.Outcome State Fault Refusal :=
  windowCommand p (cycleAt .portState (.write 2)) (done p none) s

/-- PORT_RESET_ASSERT (R190). -/
def execPortResetAssert (p : PortId) (s : State) : Host.Outcome State Fault Refusal := .next (assertPin p s)

/-- PORT_RESET_RELEASE (R197). -/
def execPortResetRelease (p : PortId) (s : State) : Host.Outcome State Fault Refusal := .next (releasePin p s)

/-- WITHDRAWAL (R193). -/
def execWithdrawal (p : PortId) (s : State) : Host.Outcome State Fault Refusal :=
  .next (teardown p (fun a => !a.withdrawn) (withdraw p) s)

/-- RELEASE_EVENT (R194). -/
def execReleaseEvent (p : PortId) (l : LockId) (s : State) : Host.Outcome State Fault Refusal :=
  .next (settle (teardown p (fun a => a.withdrawn && a.toRelease.contains l) (releaseHeld p l) s))

/-- MESSAGE_UNIT_TEARDOWN (R195). -/
def execMessageUnitTeardown (p : PortId) (s : State) : Host.Outcome State Fault Refusal :=
  .next (settle (teardown p (fun a => !a.messagesDown) (tearDownMessages p) s))

/-- COPY_ENGINE_TEARDOWN (R163). -/
def execCopyEngineTeardown (p : PortId) (s : State) : Host.Outcome State Fault Refusal :=
  .next (teardown p (fun a => !a.copyDown) (tearDownCopy p) s)

/-- COMPLETION_EVENT (R196). -/
def execCompletionEvent (p : PortId) (s : State) : Host.Outcome State Fault Refusal :=
  .next (teardown p AttachRecord.allDown (complete p) s)

/-- DEVICE_RESET (R202). -/
def execDeviceReset (s : State) : Host.Outcome State Fault Refusal := .next (assertReset s)

/-- RESET_RELEASE (R183). -/
def execResetRelease (cfgp1 cfgp0 : Bool) (s : State) : Host.Outcome State Fault Refusal :=
  .next (releaseReset cfgp1 cfgp0 s)

/-! ### The window (Chapter 10) -/

/-- REGISTER_WRITE (R209): a register cycle that has no row of its own. -/
def execRegisterWrite (p : PortId) (r : Reg) (op : CycleOp) (s : State) : Host.Outcome State Fault Refusal :=
  windowCommand p (cycleAt r op) (registerAccess p r op) s

/-- UNASSIGNED_ACCESS (R210). -/
def execUnassignedAccess (p : PortId) (addr : BitVec 6) (op : CycleOp) (s : State) :
    Host.Outcome State Fault Refusal :=
  windowCommand p ⟨addr, op⟩ (windowAccess p ⟨addr, op⟩) s

/-- DETACHED_WINDOW_CYCLE (R192): a cycle given to a port that is detached; hostCycle answers it by detachedCycle. A
port that is attached when the cycle is taken answers it with its open window. -/
def execDetachedWindowCycle (p : PortId) (addr : BitVec 6) (op : CycleOp) (s : State) :
    Host.Outcome State Fault Refusal :=
  windowCommand p ⟨addr, op⟩ (windowAccess p ⟨addr, op⟩) s

/-- CYCLE_END (R205). -/
def execCycleEnd (p : PortId) (s : State) : Host.Outcome State Fault Refusal := .next (modBus p Bus.endCycle s)

end Sys2Proof.Machine
end

