-- ==== Sys2Proof/Machine/Dispatch.lean ====
section
/-! DEFINITION. The dispatch: one arm per constructor of Instr, each one direct call of its meaning. -/

namespace Sys2Proof.Machine

def exec (i : Instr) (s : State) : Host.Outcome State Fault Refusal :=
  match i with
  | .take p l => Sys2Proof.Machine.execTake p l s
  | .wait p l patience => Sys2Proof.Machine.execWait p l patience s
  | .release p l => Sys2Proof.Machine.execRelease p l s
  | .cancel p l => Sys2Proof.Machine.execCancel p l s
  | .renew p l => Sys2Proof.Machine.execRenew p l s
  | .forceRelease p l => Sys2Proof.Machine.execForceRelease p l s
  | .tickEvent => Sys2Proof.Machine.execTickEvent s
  | .leaseExpiry l => Sys2Proof.Machine.execLeaseExpiry l s
  | .patienceExpiry l p => Sys2Proof.Machine.execPatienceExpiry l p s
  | .tickWrite p w => Sys2Proof.Machine.execTickWrite p w s
  | .holdLimitWrite p w => Sys2Proof.Machine.execHoldLimitWrite p w s
  | .failWordWrite p w => Sys2Proof.Machine.execFailWordWrite p w s
  | .orphanWrite p w => Sys2Proof.Machine.execOrphanWrite p w s
  | .ranksWrite p w => Sys2Proof.Machine.execRanksWrite p w s
  | .defaultRightsWrite p w => Sys2Proof.Machine.execDefaultRightsWrite p w s
  | .lockCfgWrite p w => Sys2Proof.Machine.execLockCfgWrite p w s
  | .lockSelWrite p w => Sys2Proof.Machine.execLockSelWrite p w s
  | .descSelWrite p w => Sys2Proof.Machine.execDescSelWrite p w s
  | .descBaseWrite p w => Sys2Proof.Machine.execDescBaseWrite p w s
  | .descAttrWrite p w => Sys2Proof.Machine.execDescAttrWrite p w s
  | .descRightsWrite p w => Sys2Proof.Machine.execDescRightsWrite p w s
  | .load p => Sys2Proof.Machine.execLoad p s
  | .commit p => Sys2Proof.Machine.execCommit p s
  | .ptrWrite p w => Sys2Proof.Machine.execPtrWrite p w s
  | .opndWrite p w => Sys2Proof.Machine.execOpndWrite p w s
  | .stepWrite p w => Sys2Proof.Machine.execStepWrite p w s
  | .dataRead p => Sys2Proof.Machine.execDataRead p s
  | .dataWrite p w => Sys2Proof.Machine.execDataWrite p w s
  | .xchgRead p => Sys2Proof.Machine.execXchgRead p s
  | .faddRead p => Sys2Proof.Machine.execFaddRead p s
  | .rotationGrant => Sys2Proof.Machine.execRotationGrant s
  | .outDataWrite p w => Sys2Proof.Machine.execOutDataWrite p w s
  | .send p dest urgent hold tag => Sys2Proof.Machine.execSend p dest urgent hold tag s
  | .discard p => Sys2Proof.Machine.execDiscard p s
  | .inHeadRead p => Sys2Proof.Machine.execInHeadRead p s
  | .inDataRead p => Sys2Proof.Machine.execInDataRead p s
  | .pop p => Sys2Proof.Machine.execPop p s
  | .flush p => Sys2Proof.Machine.execFlush p s
  | .holdExpiry q p => Sys2Proof.Machine.execHoldExpiry q p s
  | .copySrcWrite p w => Sys2Proof.Machine.execCopySrcWrite p w s
  | .copyDstWrite p w => Sys2Proof.Machine.execCopyDstWrite p w s
  | .copyCountWrite p w => Sys2Proof.Machine.execCopyCountWrite p w s
  | .copyNoticeWrite p w => Sys2Proof.Machine.execCopyNoticeWrite p w s
  | .start p => Sys2Proof.Machine.execStart p s
  | .copyCancel p => Sys2Proof.Machine.execCopyCancel p s
  | .sourceRead => Sys2Proof.Machine.execSourceRead s
  | .destinationWrite => Sys2Proof.Machine.execDestinationWrite s
  | .intCauseWrite p w => Sys2Proof.Machine.execIntCauseWrite p w s
  | .intMaskWrite p w => Sys2Proof.Machine.execIntMaskWrite p w s
  | .revokedLoWrite p w => Sys2Proof.Machine.execRevokedLoWrite p w s
  | .revokedHiWrite p w => Sys2Proof.Machine.execRevokedHiWrite p w s
  | .faultPop p => Sys2Proof.Machine.execFaultPop p s
  | .clearOverrun p => Sys2Proof.Machine.execClearOverrun p s
  | .registerWrite p r op => Sys2Proof.Machine.execRegisterWrite p r op s
  | .unassignedAccess p addr op => Sys2Proof.Machine.execUnassignedAccess p addr op s
  | .detachedWindowCycle p addr op => Sys2Proof.Machine.execDetachedWindowCycle p addr op s
  | .detach p target => Sys2Proof.Machine.execDetach p target s
  | .leave p => Sys2Proof.Machine.execLeave p s
  | .join p => Sys2Proof.Machine.execJoin p s
  | .portResetAssert p => Sys2Proof.Machine.execPortResetAssert p s
  | .portResetRelease p => Sys2Proof.Machine.execPortResetRelease p s
  | .withdrawal p => Sys2Proof.Machine.execWithdrawal p s
  | .releaseEvent p l => Sys2Proof.Machine.execReleaseEvent p l s
  | .messageUnitTeardown p => Sys2Proof.Machine.execMessageUnitTeardown p s
  | .copyEngineTeardown p => Sys2Proof.Machine.execCopyEngineTeardown p s
  | .completionEvent p => Sys2Proof.Machine.execCompletionEvent p s
  | .deviceReset => Sys2Proof.Machine.execDeviceReset s
  | .resetRelease cfgp1 cfgp0 => Sys2Proof.Machine.execResetRelease cfgp1 cfgp0 s
  | .cycleEnd p => Sys2Proof.Machine.execCycleEnd p s

end Sys2Proof.Machine
end

