-- ==== Sys2Proof/Safety.lean ====
section
/-! DEFINITION. What the statements are about: a port whose window takes a cycle at once, the state a window cycle
leaves when it completes or is refused, and the invariants of the part that a safe run keeps. -/

namespace Sys2Proof.Machine

/-! ### A window cycle -/

/-- The window of port `p` takes a cycle at once: nRST and nPRST released, no earlier cycle open, and the port
ATTACHED (R192, R203, R204). -/
structure Ready (s : State) (p : PortId) : Prop where
  nrst : s.nrst = false
  prst : (s.port p).prst = false
  idle : (s.port p).bus.phase = .idle
  attached : (s.port p).attach.attached = true

/-- The same for a port that is DETACHED: its detached window takes the cycle (R192, R212). -/
structure ReadyDetached (s : State) (p : PortId) : Prop where
  nrst : s.nrst = false
  prst : (s.port p).prst = false
  idle : (s.port p).bus.phase = .idle
  detached : (s.port p).attach.attached = false

/-- The bus of a port whose cycle has just completed, its host's strobe still asserted: RDY released, `data` on
D15–D0, nERR asserted when `err`. -/
def Bus.answered (data : Option Word) (err : Bool) : Bus :=
  { strobe := true, phase := .idle, next := none, data := data, nerrLow := err }

/-- The state in which port `p` has the records `f` makes of its own, its cycle completed without error with `data`,
and everything else is as in `s`. The cycle is one that the port's window took in the same event. -/
def State.after (s : State) (p : PortId) (f : PortRecord → PortRecord) (data : Option Word) : State :=
  setPort p { f (s.port p) with bus := Bus.answered data false } s

/-- The interrupt record after a fault record has been offered (R178). -/
def InterruptRecord.offered (i : InterruptRecord) (f : FaultRecord) : InterruptRecord :=
  { i with
    causes := i.causes ||| causeBit .fault
    faults := if i.faults.length < 4 then i.faults ++ [f] else i.faults
    overrun := if i.faults.length < 4 then i.overrun else true }

/-- The state in which a register cycle `op` of port `p` at byte offset `off` has been refused with a fault of kind
`k` (R175, R176): nERR, 0x0000 for a read, the record offered, and everything else as in `s`. -/
def State.refused (s : State) (p : PortId) (k : FaultKind) (off : Word) (op : CycleOp) (d : Option DescId)
    (l : Option LockId) : State :=
  let r := s.port p
  setPort p { r with
    bus := Bus.answered (match op with | .read => some 0 | .write _ => none) true
    intr := r.intr.offered
      { kind := k, source := .host
        access := match op with | .read => .read | .write _ => .write
        address := off, desc := d, lock := l } } s

/-- The state in which port `p` has the records `f` makes of its own, and a cycle that it had open completes: with
`data` and, when `err`, with nERR if its host still waits for it, and unseen otherwise (R205, R206, R208). -/
def State.completing (s : State) (p : PortId) (f : PortRecord → PortRecord) (data : Option Word) (err : Bool) : State :=
  setPort p { f (s.port p) with bus := (s.port p).bus.complete data err } s

/-- The state in which LOCK_RESULT of port `p` shows `o` and `l`, its cycle completed without error (R15). -/
def State.lockAnswered (s : State) (p : PortId) (o : LockOutcome) (l : LockId) : State :=
  s.after p (fun r => { r with lock := { r.lock with result := { outcome := o, lock := l } } }) none

/-! ### Locks -/

/-- The interrupt record with a cause set. -/
def InterruptRecord.raised (i : InterruptRecord) (c : Cause) : InterruptRecord :=
  { i with causes := i.causes ||| causeBit c }

/-- The lock record after a grant to port `p` that leaves the wait list `ws` (R22). -/
def LockRecord.granted (r : LockRecord) (p : PortId) (ws : List Waiter) : LockRecord :=
  { r with state := .held p, waiters := ws
           lease := if r.leasePeriod = 0 then .stopped else .running r.leasePeriod }

/-- The state after a handover of lock `l` to the head waiter `w`, before any recheck: `ws` stays in the list, and
the new holder's record is GRANTED with LOCK_OUTCOME set (R23). -/
def State.handedTo (s : State) (l : LockId) (w : Waiter) (ws : List Waiter) : State :=
  let r := s.port w.port
  setPort w.port { r with lock := { r.lock with request := .granted l w.kind }
                          intr := r.intr.raised .lockOutcome }
    (setLock l ((s.lock l).granted w.port ws) s)

/-- The state after a revocation of lock `l` from port `h`, before the handover (R24). -/
def State.revokedFrom (s : State) (l : LockId) (h : PortId) : State :=
  let r := s.port h
  setPort h { r with lock := { r.lock with revoked := r.lock.revoked ||| (1 : BitVec 32) <<< l.val }
                     intr := r.intr.raised .revoked } s

/-! ### Store accesses -/

/-- The store after a permitted access (R101 to R104). -/
def HostAccess.stored (a : HostAccess) (opnd : Word) (addr : Nat) (m : Store) : Store :=
  match a with
  | .read => m
  | .write w => storeWrite m addr w
  | .xchg => storeWrite m addr opnd
  | .fadd => storeWrite m addr (storeRead m addr + opnd)

/-- The word a host access returns, when the access reads. -/
def HostAccess.returns (a : HostAccess) (w : Word) : Option Word :=
  match a with
  | .write _ => none
  | _ => some w

/-- The state after a permitted access `a` of port `p` at `addr`: the store access, the advance of PTR by STEP, and the
cycle completed with the word read (R101 to R105). -/
def State.accessMade (s : State) (p : PortId) (a : HostAccess) (addr : Word) : State :=
  let r := s.port p
  setPort p { r with engine := { r.engine with ptr := r.engine.ptr + r.engine.step.signExtend 16 }
                     bus := r.bus.complete (a.returns (storeRead s.store addr.toNat)) false }
    { s with store := a.stored r.engine.opnd addr.toNat s.store }

/-- The state after a refused access of port `p`: nERR, FAIL_WORD for a read, the fault record offered (R70). -/
def State.accessRefused (s : State) (p : PortId) (a : HostAccess) (addr : Word) (k : FaultKind) (d : Option DescId)
    (l : Option LockId) : State :=
  let r := s.port p
  setPort p { r with
    bus := r.bus.complete (a.returns s.failWord) true
    intr := r.intr.offered
      { kind := k, source := .host, address := addr, desc := d, lock := l
        access := match a with | .read => .read | .write _ => .write | .xchg => .xchg | .fadd => .fadd } } s

/-! ### Messages, copies and time -/

/-- Port `q` takes messages: it is attached, or its teardown at the message unit is still to come (R195). -/
def State.takesMessages (s : State) (q : PortId) : Prop :=
  (s.port q).attach.attached = true ∨
    ((s.port q).attach.pending = true ∧ (s.port q).attach.messagesDown = false)

/-- A message of length `n` finds room: the destination takes messages, its hold list is empty, and its queue has at
least 1 + n free words (R122). -/
def State.hasRoom (s : State) (q : PortId) (n : Nat) : Prop :=
  s.takesMessages q ∧ (s.port q).msg.holdList = [] ∧
    ((s.port q).msg.queue.map fun m => 1 + m.payload.length).sum + 1 + n ≤ 32

/-- The state after the admission of a message to the queue of `q` (R121). -/
def State.admitted (s : State) (q : PortId) (m : Message) : State :=
  let r := s.port q
  setPort q { r with msg := { r.msg with queue := insertMessage r.msg.opened m r.msg.queue }
                     intr := r.intr.raised (match m.cls with | .normal => .msgArrived | .urgent => .msgUrgent) } s

/-- The record of a port whose SEND to `q` has ended with outcome `o` and staging `st`. -/
def PortRecord.sendEnded (r : PortRecord) (o : SendOutcome) (q : PortId) (st : List Word) : PortRecord :=
  { r with msg := { r.msg with outcome := o, dest := q, staging := st } }

/-- The state after a copy half of port `p`'s job has been refused: the record offered, no nERR (R152). -/
def State.copyRefused (s : State) (p : PortId) (t : AccessType) (addr : Word) (k : FaultKind) (d : Option DescId)
    (l : Option LockId) : State :=
  let r := s.port p
  setPort p { r with
    intr := r.intr.offered { kind := k, source := .copy, access := t, address := addr, desc := d, lock := l } } s

/-- The store after the words at the listed indexes of a job have been moved, in that order (Table 7-2). -/
def Job.moveAll (j : Job) : List Nat → Store → Store
  | [], m => m
  | i :: is, m => j.moveAll is (storeWrite m (j.destinationAt i).toNat (storeRead m (j.sourceAt i).toNat))

/-- The state after `n` tick events. -/
def afterTicks : Nat → State → Option State
  | 0, s => some s
  | n + 1, s =>
    match exec .tickEvent s with
    | .next t => afterTicks n t
    | _ => none

/-- How many requesters stand before `r` in rotation order after the position `pos` (R107). -/
def rotationDistance (pos r : Requester) : Nat :=
  let place : Requester → Nat := fun x => match x with | .port p => p.val | .copyEngine => 4
  (place r + 4 - place pos) % 5

/-- The record of a port at its detach event (R191): DETACHED with a reason and its teardown to come, no held access and
no store request; `bus` is what becomes of its bus. -/
def PortRecord.detachedBy (r : PortRecord) (reason : DetachReason) (bus : Bus) : PortRecord :=
  { r with attach := { attached := false, reason := reason, pending := true, withdrawn := false, toRelease := [],
                       messagesDown := false, copyDown := false }
           held := none, engine := { r.engine with request := none }, bus := bus }

/-- A bus in reset: RDY released, nERR high, the data lines floated; the strobe is the host's (R203). -/
def Bus.inReset (b : Bus) : Bus :=
  { strobe := b.strobe, phase := .idle, next := none, data := none, nerrLow := false }

/-- A teardown of port `p` is pending (R191). -/
structure TearingDown (s : State) (p : PortId) : Prop where
  nrst : s.nrst = false
  detached : (s.port p).attach.attached = false
  pending : (s.port p).attach.pending = true

/-- The job queue without the job of port `p`: when it was the head, the next job is RUNNING with its first source
read presented (R147, R148). -/
def State.withoutJobOf (s : State) (p : PortId) : State :=
  let others := s.jobs.filter fun k => decide (k.requester ≠ p)
  if (s.jobs.head?.map Job.requester) = some p then
    { s with
      jobs := match others with | [] => [] | k :: ks => { k with state := .running } :: ks
      copyWord := if others = [] then none else some { index := 0, phase := .source } }
  else { s with jobs := others }

/-- PEER_CHANGE has been set at every other attached port, and nothing else differs (R199). -/
def PeersTold (p : PortId) (s t : State) : Prop :=
  t = { s with ports := t.ports } ∧ t.port p = s.port p ∧
    ∀ q, q ≠ p → t.port q =
      if (s.port q).attach.attached then { s.port q with intr := (s.port q).intr.raised .peerChange } else s.port q

/-! ### Invariants -/

/-- The store's list is in its canonical form. -/
def StoreCanonical (s : State) : Prop := storeWf s.store

/-- R171: the REVOKED cause is set whenever the port's revoked set is not empty. -/
def RevokedShown (s : State) : Prop :=
  ∀ p, (s.port p).lock.revoked ≠ 0 → s.causeSet p .revoked = true

/-- The configuration values are the ones their registers accept, and every table entry passes COMMIT's validation
(Table 9-1, R59). -/
structure ConfigLegal (s : State) : Prop where
  tickLow : 1 ≤ s.tick.toNat
  tickHigh : s.tick.toNat ≤ 4095
  holdLimit : s.holdLimit ≠ 0
  defaultRights : rightsLegal s.defaultRights = true
  descriptors : ∀ d, (s.desc d).valid = true

/-- R177: a fault queue holds at most four records. -/
def FaultQueuesBounded (s : State) : Prop := ∀ p, (s.port p).intr.faults.length ≤ 4

/-- A cycle waits only behind an open one (R204, R208) and, by the model's reading of R208 that the strobe's end drops
it, under its host's strobe (log entry 9, DEDUCED); none waits while the bus is in reset (R203). So between commands no
cycle is due. -/
structure WaitingCyclesOk (s : State) : Prop where
  behindOpen : ∀ p, (s.port p).bus.next.isSome = true → (s.port p).bus.strobe = true ∧ (s.port p).bus.phase ≠ .idle
  noneInReset : ∀ p, s.busInReset p = true → (s.port p).bus.next = none

/-- The structure of the lock table (R4, R7, R11) and its tie to the held accesses (R80): a held access stands exactly
behind a WAITING record of kind CLAIM while no teardown is pending. With it, what it rests on at the host ports: the
bus phase of a held access and of a store request, a detached port that has neither and, once withdrawn, waits for no
lock, and that under device reset nothing waits. -/
structure LockTableOk (s : State) : Prop where
  freeEmpty : ∀ l, (s.lock l).state = .free → (s.lock l).waiters = []
  holderApart : ∀ l h, (s.lock l).state = .held h → ∀ w ∈ (s.lock l).waiters, w.port ≠ h
  entryOnce : ∀ l, ((s.lock l).waiters.map Waiter.port).Nodup
  entryRecorded : ∀ l, ∀ w ∈ (s.lock l).waiters, (s.port w.port).lock.request = .waiting l w.kind
  recordEntered : ∀ p l k, (s.port p).lock.request = .waiting l k → ∃ w ∈ (s.lock l).waiters, w.port = p
  rankOrder : ∀ l, (s.lock l).policy = .rank → (s.lock l).waiters.Pairwise fun a b => b.rank.toNat ≤ a.rank.toNat
  heldClaim : ∀ p h, (s.port p).held = some h → (s.port p).lock.request = .waiting h.lock .claim
  claimHeld : ∀ p l, (s.port p).attach.pending = false → (s.port p).lock.request = .waiting l .claim →
    ∃ h, (s.port p).held = some h ∧ h.lock = l
  heldPhase : ∀ p, (s.port p).held.isSome = true → (s.port p).bus.phase = .claim
  requestPhase : ∀ p, (s.port p).engine.request.isSome = true → (s.port p).bus.phase = .store
  detachedQuiet : ∀ p, (s.port p).attach.attached = false →
    (s.port p).engine.request = none ∧ (s.port p).held = none
  withdrawnDone : ∀ p, (s.port p).attach.attached = false →
    ((s.port p).attach.withdrawn = true ∨ (s.port p).attach.pending = false) →
    (s.port p).lock.request.isWaiting = false
  underReset : s.nrst = true → ∀ p, (s.port p).lock.request.isWaiting = false ∧ (s.port p).engine.request = none

/-- R13: no port passes HOLD_MAX. -/
def HoldMaxKept (s : State) : Prop := ∀ p, s.holdCount p ≤ 8

/-- The job queue (R145, R147 to R149): at most one job per port, the head RUNNING and the others QUEUED, every block
inside the store, and the word record present with an index below the count exactly while a job runs. -/
structure JobsOk (s : State) : Prop where
  onePerPort : (s.jobs.map Job.requester).Nodup
  headRuns : ∀ j js, s.jobs = j :: js → j.state = .running ∧ ∀ k ∈ js, k.state = .queued
  inStore : ∀ j ∈ s.jobs, 1 ≤ j.count ∧ j.source.toNat + j.count ≤ 0x8000 ∧ j.destination.toNat + j.count ≤ 0x8000
  wordPresent : s.copyWord.isSome = !s.jobs.isEmpty
  wordInJob : ∀ j js w, s.jobs = j :: js → s.copyWord = some w → w.index < j.count

/-- The message unit (R116, R119, R125, R126): queues of at most 32 words, staging of at most six, and hold-list
entries that each stand for a send still held, as each held send stands in the one list of its destination (R80),
with what that rests on at the bus. -/
structure MessagesOk (s : State) : Prop where
  words : ∀ q, wordsUsed (s.port q).msg.queue ≤ 32
  staged : ∀ p, (s.port p).msg.staging.length ≤ 6
  entrySender : ∀ q, ∀ e ∈ (s.port q).msg.holdList, e.sender ≠ q
  entryLength : ∀ q, ∀ e ∈ (s.port q).msg.holdList, e.length = (s.port e.sender).msg.staging.length
  entryHeld : ∀ q, ∀ e ∈ (s.port q).msg.holdList,
    (s.port e.sender).bus.phase = .send q ∨
      ((s.port e.sender).attach.attached = false ∧ (s.port e.sender).attach.pending = true ∧
        (s.port e.sender).attach.messagesDown = false)
  entryOnce : ∀ q, ((s.port q).msg.holdList.map HoldEntry.sender).Nodup
  sendEntered : ∀ p q, (s.port p).bus.phase = .send q → ∃ e ∈ (s.port q).msg.holdList, e.sender = p
  entryOneList : ∀ q q', ∀ e ∈ (s.port q).msg.holdList, ∀ e' ∈ (s.port q').msg.holdList,
    e.sender = e'.sender → q = q'
  heldPhase : ∀ p, (s.port p).held.isSome = true → (s.port p).bus.phase = .claim
  requestPhase : ∀ p, (s.port p).engine.request.isSome = true → (s.port p).bus.phase = .store
  detachedEnded : ∀ p, (s.port p).attach.attached = false →
    (s.port p).held = none ∧ (s.port p).engine.request = none ∧ ∀ q, (s.port p).bus.phase ≠ .send q
  underReset : s.nrst = true → ∀ q, (s.port q).msg.holdList = [] ∧ (s.port q).bus.phase = .idle

/-- R120: in every inbound queue the URGENT messages stand ahead of the NORMAL ones, but for an opened front message,
and only a message that stands in the queue is opened. -/
structure QueuesOrdered (s : State) : Prop where
  ordered : ∀ q, (if (s.port q).msg.opened then (s.port q).msg.queue.tail else (s.port q).msg.queue).Pairwise
    fun a b => a.cls = .normal → b.cls = .normal
  openedFront : ∀ q, (s.port q).msg.opened = true → (s.port q).msg.queue ≠ []

/-- Every enumerated field of a register has the codes of Table 10-4, and every cause the position of Table 10-5, in the
order of the names. -/
def CodesOfTable : Prop :=
  [Cause.lockOutcome, .revoked, .msgArrived, .msgUrgent, .copyEnd, .fault, .peerChange].map causeIndex = List.range 7 ∧
  [LockOutcome.none, .granted, .busy, .pending, .released, .renewed, .cancelled, .forced, .notHeld, .refusedAlreadyHeld,
      .refusedNotHolder, .refusedRequestPending, .refusedNoRequest, .refusedHoldLimit, .refusedPrivilege].map
    (fun x => (lockOutcomeCode x).toNat) = List.range 15 ∧
  [WaitKind.explicit, .claim].map (fun x => (waitKindBit x).toNat) = [0, 1] ∧
  [JobState.idle, .queued, .running, .done, .faulted, .cancelled].map (fun x => (jobStateCode x).toNat) =
    List.range 6 ∧
  [JobFault.none, .rights, .guard].map (fun x => (jobFaultCode x).toNat) = List.range 3 ∧
  [Submission.none, .accepted, .busy, .badCount, .badRange].map (fun x => (submissionCode x).toNat) = List.range 5 ∧
  [NoticeOutcome.none, .pending, .posted, .dropped].map (fun x => (noticeOutcomeCode x).toNat) = List.range 4 ∧
  [FaultKind.noStore, .rights, .guard, .holdExpired, .claimConflict, .holdLimit, .privilege, .badDesc, .badValue,
      .badState, .stagingOverflow, .unassigned].map (fun x => (faultKindCode x).toNat) = List.range' 1 12 ∧
  [FaultSource.host, .copy].map (fun x => (faultSourceBit x).toNat) = [0, 1] ∧
  [AccessType.read, .write, .xchg, .fadd].map (fun x => (accessTypeCode x).toNat) = List.range 4 ∧
  [DetachReason.none, .pin, .command, .leave].map (fun x => (detachReasonCode x).toNat) = List.range 4 ∧
  [SendOutcome.none, .sent, .full, .detached].map (fun x => (sendOutcomeCode x).toNat) = List.range 4

/-- A safe step: the part goes on. -/
def Goes (o : Host.Outcome State Fault Refusal) : Prop := ∃ t, o = .next t

end Sys2Proof.Machine
end

