-- ==== Sys2Proof/Certificates/Slice0/Obligations.lean ====
section
/-! DEFINITION. The statements about the part. A statement of a command's effect is an equation with the whole next
state, so that what the equation does not name is unchanged. `settle` around that state takes the cycles that
waited at a port for what the command completed (R204, R208); CycleEndAndWaitingCycle says what it does, and that it
leaves a state in which no cycle is due. -/

open Sys2Proof Sys2Proof.Machine

/-! ### The machine -/

/-- One step takes the command at the front of the queue and runs it on the state with the queue's rest, and with no
command waiting the part idles (the model's own queue of commands, log entry 4). -/
def Obligations.StepRunsFrontCommand : Prop :=
  (∀ (c : Instr) (rest : List Instr) (s : State), s.pending = c :: rest →
    step s = exec c { s with pending := rest }) ∧
  ∀ s : State, s.pending = [] → step s = .next s

/-- What the registers show at a read, with the fields and codes of Tables 10-4 and 10-5, each field at its place as a
sum of weights: the records of the port and of the lock its LOCK_SEL names (R12, R14, R15, R26, R27, R161, R167, R179,
R187, R189, R199), and payload word 0 of a notice (R158). A register's read returns this value by RegisterCycles. Three
values are the model's: a lease which is due shows 0 remaining (log entry 5); DESC_ATTR shows the guard lock bits 4–0
also when guard present is 0 (log entry 18, DEDUCED, unsafe); FAULT_HEAD shows 0 in bits 3–0 when descriptor present is 0
(log entry 25, DESIGN CHOICE, unsafe). -/
def Obligations.RegisterValues : Prop :=
  CodesOfTable ∧
  (∀ (s : State) (p : PortId),
    let r := s.port p
    let k := s.lock r.lock.sel
    let shows := fun (x : Reg) (n : Nat) => (registerValue s p x).toNat = n
    let showsWord := fun (x : Reg) (w : Word) => registerValue s p x = w
    -- attach, causes and faults
    shows .portId (s.configPort.val * 2 ^ 8 + p.val) ∧
    shows .portState ((!r.attach.attached).toNat * 2 ^ 15 + (detachReasonCode r.attach.reason).toNat * 2 ^ 8 +
      r.attach.pending.toNat) ∧
    (∀ n, n < 16 → (registerValue s p .peers).getLsbD n =
      if h : n < 4 then (s.port ⟨n, h⟩).attach.attached else false) ∧
    shows .intCause r.intr.causes.toNat ∧ shows .intMask r.intr.mask.toNat ∧
    (r.intr.faults = [] → shows .faultHead 0 ∧ shows .faultAddr 0 ∧ shows .faultLock 0) ∧
    (∀ f fs, r.intr.faults = f :: fs →
      shows .faultHead ((faultKindCode f.kind).toNat * 2 ^ 12 + (faultSourceBit f.source).toNat * 2 ^ 11 +
        (accessTypeCode f.access).toNat * 2 ^ 9 + match f.desc with | some d => 2 ^ 4 + d.val | none => 0) ∧
      showsWord .faultAddr f.address ∧
      shows .faultLock (match f.lock with | some l => 2 ^ 5 + l.val | none => 0)) ∧
    (r.intr.faults.length ≤ 4 → shows .faultCtrl (r.intr.overrun.toNat * 2 ^ 15 + r.intr.faults.length)) ∧
    -- the access engine
    showsWord .ptr r.engine.ptr ∧ showsWord .opnd r.engine.opnd ∧
    (registerValue s p .step).toInt = r.engine.step.toInt ∧
    -- the lock table
    shows .lockSel r.lock.sel.val ∧
    shows .lockResult ((lockOutcomeCode r.lock.result.outcome).toNat * 2 ^ 12 +
      if r.lock.result.outcome = .none then 0 else r.lock.result.lock.val) ∧
    shows .waitState (match r.lock.request with
      | .idle => 0
      | .waiting l c => 1 * 2 ^ 13 + (waitKindBit c).toNat * 2 ^ 8 + l.val
      | .granted l c => 2 * 2 ^ 13 + (waitKindBit c).toNat * 2 ^ 8 + l.val
      | .timedOut l c => 3 * 2 ^ 13 + (waitKindBit c).toNat * 2 ^ 8 + l.val
      | .cancelled l c => 4 * 2 ^ 13 + (waitKindBit c).toNat * 2 ^ 8 + l.val) ∧
    (∀ l : LockId,
      (if l.val < 16 then (registerValue s p .heldLo).getLsbD l.val
        else (registerValue s p .heldHi).getLsbD (l.val - 16)) = decide ((s.lock l).state = .held p) ∧
      (if l.val < 16 then (registerValue s p .revokedLo).getLsbD l.val
        else (registerValue s p .revokedHi).getLsbD (l.val - 16)) = r.lock.revoked.getLsbD l.val) ∧
    (k.waiters.length ≤ 4 →
      shows .lockView (
        (match k.state with | .free => 0 | .held h => 2 ^ 14 + h.val * 2 ^ 12 | .orphaned => 2 * 2 ^ 14) +
        k.waiters.length * 2 ^ 8 + (match k.lease with | .running n => n.toNat | _ => 0)) ∧
      shows .lockWaiters ((List.range 4).map fun i => 16 ^ i * (match k.waiters[i]? with
        | some w => 8 + 4 * (waitKindBit w.kind).toNat + w.port.val
        | none => 0)).sum) ∧
    shows .lockCfg ((match k.policy with | .arrival => 0 | .rank => 2 ^ 15) + k.leasePeriod.toNat) ∧
    -- the region table
    shows .descSel r.region.sel.val ∧ showsWord .descBase r.region.staging.base ∧
    (let d := r.region.staging
     shows .descAttr (d.enabled.toNat * 2 ^ 15 + d.sizeCode.toNat * 2 ^ 8 + d.guardPresent.toNat * 2 ^ 7 +
      d.scopeAll.toNat * 2 ^ 6 + d.policyClaim.toNat * 2 ^ 5 + d.guardLock.toNat)) ∧
    shows .descRights r.region.staging.rights.toNat ∧
    -- messages
    (r.msg.staging.length ≤ 6 → shows .sendResult ((sendOutcomeCode r.msg.outcome).toNat * 2 ^ 14 +
      r.msg.dest.val * 2 ^ 8 + r.msg.staging.length)) ∧
    (r.msg.holdList.length ≤ 3 → wordsUsed r.msg.queue ≤ 32 → shows .inCtrl (r.msg.holdList.length * 2 ^ 14 +
      r.msg.queue.length * 2 ^ 8 + (r.msg.queue.map fun m => 1 + m.payload.length).sum)) ∧
    -- the copy engine
    showsWord .copySrc r.copy.src ∧ showsWord .copyDst r.copy.dst ∧ showsWord .copyCount r.copy.count ∧
    shows .copyNotice (r.copy.noticeFlag.toNat * 2 ^ 15 + r.copy.notice.port.val * 2 ^ 8 + r.copy.notice.tag.toNat) ∧
    (let status := fun (st : JobState) (ahead : Nat) => shows .copyStatus ((jobStateCode st).toNat * 2 ^ 13 +
      (jobFaultCode r.copy.fault).toNat * 2 ^ 11 + (submissionCode r.copy.submission).toNat * 2 ^ 8 +
      (noticeOutcomeCode r.copy.noticeOutcome).toNat * 2 ^ 4 + ahead)
     ((∀ j ∈ s.jobs, j.requester ≠ p) → status r.copy.jobState 0 ∧
      (r.copy.moved ≤ 4095 → shows .copyMoved r.copy.moved)) ∧
     ∀ us j vs, s.jobs = us ++ j :: vs → (∀ x ∈ us, x.requester ≠ p) → j.requester = p → us.length ≤ 3 →
      status j.state us.length ∧ (j.moved ≤ 4095 → shows .copyMoved j.moved)) ∧
    -- configuration
    showsWord .tick s.tick ∧ shows .holdLimit s.holdLimit.toNat ∧ showsWord .failWord s.failWord ∧
    shows .orphan (match s.orphan with | .handover => 0 | .orphan => 1) ∧ shows .ranks s.ranks.toNat ∧
    shows .defaultRights s.defaultRights.toNat) ∧
  ∀ (j : Job) (n : NoticeTarget) (final : JobState) (fk : JobFault),
    (noticeMessage j n.tag final fk).payload = [noticeHead final fk, BitVec.ofNat 16 j.moved] ∧
    (noticeHead final fk).toNat = (jobStateCode final).toNat * 2 ^ 13 + (jobFaultCode fk).toNat * 2 ^ 11

/-- The values of the registers after device reset, for every state and strap setting: after DEVICE_RESET and
RESET_RELEASE every register reads as Table 10-3 gives (R213). -/
def Obligations.ResetRegisterValues : Prop :=
  ∀ (s : State) (a b : Bool), ∃ t u, exec .deviceReset s = .next t ∧ exec (.resetRelease a b) t = .next u ∧
    (∀ p q, (registerValue u p .peers).getLsbD q.val = !(s.port q).prst) ∧
    ∀ p, (s.port p).prst = false →
      registerValue u p .portId = BitVec.ofNat 16 (256 * (2 * a.toNat + b.toNat) + p.val) ∧
      (∀ rv ∈ [(Reg.portState, (0 : Word)), (.intCause, 0), (.intMask, 0), (.faultHead, 0), (.faultAddr, 0),
        (.faultLock, 0), (.faultCtrl, 0), (.ptr, 0), (.step, 1), (.opnd, 0), (.lockSel, 0), (.lockResult, 0),
        (.waitState, 0), (.heldLo, 0), (.heldHi, 0), (.revokedLo, 0), (.revokedHi, 0), (.lockView, 0),
        (.lockWaiters, 0), (.lockCfg, 0), (.descSel, 0), (.descBase, 0), (.descAttr, 0x0400), (.descRights, 0),
        (.sendResult, 0), (.inCtrl, 0), (.copySrc, 0), (.copyDst, 0), (.copyCount, 0), (.copyNotice, 0),
        (.copyStatus, 0), (.copyMoved, 0), (.tick, 0x03E8), (.holdLimit, 0x0020), (.failWord, 0xFFFF),
        (.orphan, 1), (.ranks, 0), (.defaultRights, 0x00AA)], registerValue u p rv.1 = rv.2) ∧
      (u.port p).msg.queue = []

/-- The invariants hold at the model's reset state. -/
def Obligations.InvariantsHoldAtReset : Prop :=
  StoreCanonical State.reset ∧ RevokedShown State.reset ∧ ConfigLegal State.reset ∧
    FaultQueuesBounded State.reset ∧ LockTableOk State.reset ∧ HoldMaxKept State.reset ∧ JobsOk State.reset ∧
    MessagesOk State.reset ∧ WaitingCyclesOk State.reset ∧ QueuesOrdered State.reset

/-- Assertion of nRST ends every cycle, held access, held send and job, gives every block its reset values and keeps
the store (R86, R93, R113, R142, R164, R202, R203); its release samples the straps, begins a tick interval and attaches
the ports by their pins (R35, R183, R202). The values of the levels at nPRST and at the host's strobe are the board's.
That the number of the configuration port keeps its value while nRST is asserted, where R183 gives none, is the model's
choice (log entry 14), and so is that a release without an asserted nRST changes nothing (log entry 8). -/
def Obligations.DeviceResetAndRelease : Prop :=
  ∀ s : State,
    (∃ t, exec .deviceReset s = .next t ∧
      t = { s with ports := t.ports, locks := t.locks, descriptors := t.descriptors, ranks := 0,
                   defaultRights := 0xAA, rotation := .copyEngine, jobs := [], copyWord := none, tick := 1000,
                   interval := 1000, holdLimit := 32, failWord := 0xFFFF, orphan := .orphan, nrst := true } ∧
      (∀ l, t.lock l = { state := .free, policy := .arrival, leasePeriod := 0, lease := .stopped, waiters := [] }) ∧
      (∀ d, t.desc d = { enabled := false, base := 0, sizeCode := 4, rights := 0, guardPresent := false,
                         guardLock := 0, scopeAll := false, policyClaim := false }) ∧
      (∀ p, t.port p = { PortRecord.reset with
        prst := (s.port p).prst
        bus := { strobe := (s.port p).bus.strobe, phase := .idle, next := none, data := none, nerrLow := false } }) ∧
      ∀ p, t.rdyLow p = false ∧ t.nintLow p = false) ∧
    (∀ a b, s.nrst = true → ∃ t, exec (.resetRelease a b) s = .next t ∧
      t = { s with nrst := false, configPort := t.configPort, interval := s.tick, ports := t.ports } ∧
      t.configPort.val = 2 * a.toNat + b.toNat ∧
      ∀ p, t.port p = { s.port p with
        attach := { attached := !(s.port p).prst, reason := if (s.port p).prst then .pin else .none, pending := false,
                    withdrawn := false, toRelease := [], messagesDown := false, copyDown := false } }) ∧
    (∀ a b, s.nrst = false → exec (.resetRelease a b) s = .next s)

/-! ### Lock commands (Chapter 1) -/

/-- TAKE (R16): the four answers in their order, each with everything else unchanged; and a TAKE of the lock the
port waits for is BUSY. -/
def Obligations.TakeAnswers : Prop :=
  ∀ (p : PortId) (l : LockId) (s : State), Ready s p →
    ((s.lock l).state = .held p → exec (.take p l) s = .next (settle (s.lockAnswered p .refusedAlreadyHeld l))) ∧
    (∀ h, h ≠ p → (s.lock l).state = .held h → exec (.take p l) s = .next (settle (s.lockAnswered p .busy l))) ∧
    ((s.lock l).state = .orphaned → exec (.take p l) s = .next (settle (s.lockAnswered p .busy l))) ∧
    ((s.lock l).state = .free → 8 ≤ s.holdCount p →
      exec (.take p l) s = .next (settle (s.lockAnswered p .refusedHoldLimit l))) ∧
    ((s.lock l).state = .free → s.holdCount p < 8 →
      exec (.take p l) s =
        .next (settle (setLock l ((s.lock l).granted p (s.lock l).waiters) (s.lockAnswered p .granted l)))) ∧
    (LockTableOk s → ∀ k, (s.port p).lock.request = .waiting l k →
      exec (.take p l) s = .next (settle (s.lockAnswered p .busy l)))

/-- WAIT (R17): the five answers in their order. The new entry carries the port's rank and the patience, no
countdown for 0, and is placed by the lock's policy. -/
def Obligations.WaitAnswers : Prop :=
  ∀ (p : PortId) (l : LockId) (n : Ticks) (s : State), Ready s p →
    (∀ m k, (s.port p).lock.request = .waiting m k →
      exec (.wait p l n) s = .next (settle (s.lockAnswered p .refusedRequestPending l))) ∧
    ((s.port p).lock.request.isWaiting = false →
      ((s.lock l).state = .held p → exec (.wait p l n) s = .next (settle (s.lockAnswered p .refusedAlreadyHeld l))) ∧
      ((s.lock l).state ≠ .held p → 8 ≤ (s.heldLocks p).length →
        exec (.wait p l n) s = .next (settle (s.lockAnswered p .refusedHoldLimit l))) ∧
      ((s.lock l).state ≠ .held p → (s.heldLocks p).length < 8 →
        ((s.lock l).state = .free →
          exec (.wait p l n) s = .next (settle (setLock l ((s.lock l).granted p (s.lock l).waiters)
            (s.after p (fun r => { r with
              lock := { r.lock with request := .granted l .explicit, result := { outcome := .granted, lock := l } }
              intr := r.intr.raised .lockOutcome }) none)))) ∧
        ((s.lock l).state ≠ .free →
          exec (.wait p l n) s = .next (settle (setLock l { s.lock l with
              waiters := insertWaiter (s.lock l).policy
                { port := p, kind := .explicit, rank := fieldOf s.ranks p
                  patience := if n = 0 then .stopped else .running n } (s.lock l).waiters }
            (s.after p (fun r => { r with
              lock := { r.lock with request := .waiting l .explicit, result := { outcome := .pending, lock := l } } })
              none))))))

/-- RELEASE (R18): by the holder the lock is handed over and the answer is RELEASED; in every other case the answer
is REFUSED_NOT_HOLDER and nothing else changes. What a handover does is HandoverOutcome. -/
def Obligations.ReleaseAnswers : Prop :=
  ∀ (p : PortId) (l : LockId) (s : State), Ready s p →
    ((s.lock l).state = .held p →
      exec (.release p l) s = .next (settle ((handover l s).lockAnswered p .released l))) ∧
    ((s.lock l).state ≠ .held p →
      exec (.release p l) s = .next (settle (s.lockAnswered p .refusedNotHolder l)))

/-- CANCEL (R19): the entry of a WAITING port leaves its list, the record is CANCELLED with its lock and kind, and
LOCK_RESULT shows the lock of the entry (R15), whatever lock the command names; otherwise REFUSED_NO_REQUEST. -/
def Obligations.CancelAnswers : Prop :=
  ∀ (p : PortId) (l : LockId) (s : State), Ready s p →
    (∀ m k, (s.port p).lock.request = .waiting m k →
      exec (.cancel p l) s =
        .next (settle (setLock m { s.lock m with waiters := (s.lock m).waiters.filter fun w => decide (w.port ≠ p) }
          (s.after p (fun r => { r with
            lock := { r.lock with request := .cancelled m k, result := { outcome := .cancelled, lock := m } }
            intr := r.intr.raised .lockOutcome }) none)))) ∧
    ((s.port p).lock.request.isWaiting = false →
      exec (.cancel p l) s = .next (settle (s.lockAnswered p .refusedNoRequest l)))

/-- RENEW (R20). -/
def Obligations.RenewAnswers : Prop :=
  ∀ (p : PortId) (l : LockId) (s : State), Ready s p →
    ((s.lock l).state = .held p → (s.lock l).leasePeriod ≠ 0 →
      exec (.renew p l) s =
        .next (settle (setLock l { s.lock l with lease := .running (s.lock l).leasePeriod }
          (s.lockAnswered p .renewed l)))) ∧
    ((s.lock l).state = .held p → (s.lock l).leasePeriod = 0 →
      exec (.renew p l) s = .next (settle (s.lockAnswered p .renewed l))) ∧
    ((s.lock l).state ≠ .held p →
      exec (.renew p l) s = .next (settle (s.lockAnswered p .refusedNotHolder l)))

/-- FORCE_RELEASE (R21): the refusal of every port but the configuration port, and the four cases of the
configuration port. -/
def Obligations.ForceReleaseAnswers : Prop :=
  ∀ (p : PortId) (l : LockId) (s : State), Ready s p →
    (p ≠ s.configPort → exec (.forceRelease p l) s = .next (settle (s.lockAnswered p .refusedPrivilege l))) ∧
    (p = s.configPort →
      (∀ h, h ≠ p → (s.lock l).state = .held h →
        exec (.forceRelease p l) s = .next (settle ((handover l (s.revokedFrom l h)).lockAnswered p .forced l))) ∧
      ((s.lock l).state = .held p ∨ (s.lock l).state = .orphaned →
        exec (.forceRelease p l) s = .next (settle ((handover l s).lockAnswered p .forced l))) ∧
      ((s.lock l).state = .free →
        exec (.forceRelease p l) s = .next (settle (s.lockAnswered p .notHeld l))))

/-- Where a new entry stands (R6, R7): at the end under ARRIVAL; under RANK, in a list ordered by entry rank, after
every entry of equal or higher rank and before every entry of lower rank, so that the list stays ordered. -/
def Obligations.WaiterInsertion : Prop :=
  ∀ (w : Waiter) (ws : List Waiter),
    insertWaiter .arrival w ws = ws ++ [w] ∧
    (ws.Pairwise (fun a b => b.rank.toNat ≤ a.rank.toNat) →
      insertWaiter .rank w ws =
        ws.filter (fun x => decide (w.rank.toNat ≤ x.rank.toNat)) ++
          w :: ws.filter (fun x => decide (x.rank.toNat < w.rank.toNat)) ∧
      (insertWaiter .rank w ws).Pairwise fun a b => b.rank.toNat ≤ a.rank.toNat)

/-- A handover (R23, R82, R83): FREE with an empty list; otherwise the head waiter is granted, and a held access of a
CLAIM entry is rechecked against the table as it stands after the grant and ends with the access made or with the
fault of the step that refuses; without a held access there is no recheck (R85). -/
def Obligations.HandoverOutcome : Prop :=
  ∀ (l : LockId) (s : State),
    ((s.lock l).waiters = [] →
      handover l s = setLock l { s.lock l with state := .free, lease := .stopped } s) ∧
    ∀ w ws, (s.lock l).waiters = w :: ws →
      (w.kind = .explicit ∨ (s.port w.port).held = none → handover l s = s.handedTo l w ws) ∧
      (w.kind = .claim → ∀ h, (s.port w.port).held = some h →
        let g := setHeld w.port none (s.handedTo l w ws)
        (g.check w.port h.access.type h.address = .permitted →
          handover l s = g.accessMade w.port h.access h.address) ∧
        (∀ d, g.check w.port h.access.type h.address = .rights d →
          handover l s = g.accessRefused w.port h.access h.address .rights d none) ∧
        (∀ d m c, g.check w.port h.access.type h.address = .guarded d m c →
          handover l s = g.accessRefused w.port h.access h.address .guard (some d) (some m)))

/-! ### Time (Chapter 2) -/

/-- Lease expiry (R42): the holder suffers a revocation and the lock is handed over; without an expired lease there
is no event. The mark of an expiry not yet taken is the model's (log entry 5), and so is that the command without its
event, or under nRST, changes nothing (log entry 8, DESIGN CHOICE). -/
def Obligations.LeaseExpiryRevokes : Prop :=
  ∀ (l : LockId) (s : State),
    (∀ h, s.nrst = false → (s.lock l).state = .held h → (s.lock l).lease = .due →
      exec (.leaseExpiry l) s = .next (settle (handover l (s.revokedFrom l h)))) ∧
    ((s.nrst = true ∨ (s.lock l).lease ≠ .due ∨ ∀ h, (s.lock l).state ≠ .held h) →
      exec (.leaseExpiry l) s = .next (settle s))

/-- Patience expiry (R45, R84): the entry leaves the list and the record is TIMED_OUT with LOCK_OUTCOME; a held
access of a CLAIM entry ends with HOLD_EXPIRED. The mark of an expiry is the model's (log entry 5), and so is that the
command without an expired entry of the port changes nothing (log entry 8, DESIGN CHOICE). -/
def Obligations.PatienceExpiryOutcome : Prop :=
  ∀ (l : LockId) (p : PortId) (s : State), s.nrst = false →
    (∀ w us vs, (s.lock l).waiters = us ++ w :: vs → w.port = p → (∀ x ∈ us ++ vs, x.port ≠ p) → w.patience = .due →
      let t := setPort p { s.port p with
                  lock := { (s.port p).lock with request := .timedOut l w.kind }
                  intr := (s.port p).intr.raised .lockOutcome }
                (setLock l { s.lock l with waiters := us ++ vs } s)
      (w.kind = .explicit ∨ (s.port p).held = none → exec (.patienceExpiry l p) s = .next (settle t)) ∧
      (w.kind = .claim → ∀ h, (s.port p).held = some h →
        exec (.patienceExpiry l p) s =
          .next (settle
            ((setHeld p none t).accessRefused p h.access h.address .holdExpired (some h.desc) (some h.lock))))) ∧
    ((∀ w ∈ (s.lock l).waiters, w.port = p → w.patience ≠ .due) → exec (.patienceExpiry l p) s = .next (settle s))

/-- A tick event ends the interval in progress, begins one of the current TICK length and takes one tick of every lease,
patience and hold countdown (R35, R37). One tick decrements a running countdown, whose expiry is due at 0, and leaves a
stopped one stopped (R38); that a due one stays due until its expiry is taken is the model's (log entry 5). A countdown
of N ticks is running with N − k left after the k-th tick event and has expired at the N-th. That the command changes
nothing while nRST is asserted is the model's choice (log entry 8, DESIGN CHOICE: an event of the part under nRST). -/
def Obligations.TickEventCounts : Prop :=
  (∀ s : State, s.nrst = false → ∃ t, exec .tickEvent s = .next t ∧
    t = { s with interval := s.tick, locks := t.locks, ports := t.ports } ∧
    (∀ l, t.lock l = { s.lock l with
      lease := (s.lock l).lease.tick
      waiters := (s.lock l).waiters.map fun w => { w with patience := w.patience.tick } }) ∧
    ∀ p, t.port p = { s.port p with
      msg := { (s.port p).msg with
        holdList := (s.port p).msg.holdList.map fun e => { e with hold := e.hold.tick } } }) ∧
  (∀ s : State, s.nrst = true → exec .tickEvent s = .next s) ∧
  (∀ n : Ticks, (1 < n.toNat → (Countdown.running n).tick = .running (n - 1)) ∧
    (n = 1 → (Countdown.running n).tick = .due)) ∧
  Countdown.tick .stopped = .stopped ∧ Countdown.tick .due = .due ∧
  (∀ (s : State) (l : LockId) (n : Ticks), s.nrst = false → (s.lock l).lease = .running n → n ≠ 0 →
    ∀ k, k ≤ n.toNat → ∃ t, afterTicks k s = some t ∧
      (t.lock l).lease = if k = n.toNat then .due else .running (n - BitVec.ofNat 8 k))

/-! ### Configuration (Chapter 9, with R36, R47, R54, R71) -/

/-- Writes of TICK, HOLD_LIMIT, FAIL_WORD, ORPHAN, RANKS and DEFAULT_RIGHTS from the configuration port (R184 cases 2
and 3): an accepted value replaces the register and nothing else, and a value outside Table 9-1 is BAD_VALUE. TICK
and HOLD_LIMIT are judged on the whole word (R209). LOCK_CFG (R187) is BAD_STATE naming the selected lock when it
changes the policy of a lock with waiters; otherwise both fields are replaced, and a running lease stays (R43). -/
def Obligations.ConfigurationWrites : Prop :=
  ∀ (p : PortId) (w : Word) (s : State), Ready s p → p = s.configPort →
    (1 ≤ w.toNat → w.toNat ≤ 4095 → exec (.tickWrite p w) s = .next (settle { s.after p id none with tick := w })) ∧
    (w.toNat = 0 ∨ 4095 < w.toNat →
      exec (.tickWrite p w) s = .next (settle (s.refused p .badValue 0x58 (.write w) none none))) ∧
    (1 ≤ w.toNat → w.toNat ≤ 255 →
      exec (.holdLimitWrite p w) s = .next (settle { s.after p id none with holdLimit := w.setWidth 8 })) ∧
    (w.toNat = 0 ∨ 255 < w.toNat →
      exec (.holdLimitWrite p w) s = .next (settle (s.refused p .badValue 0x5A (.write w) none none))) ∧
    exec (.failWordWrite p w) s = .next (settle { s.after p id none with failWord := w }) ∧
    exec (.orphanWrite p w) s =
      .next (settle { s.after p id none with orphan := if w.getLsbD 0 then .orphan else .handover }) ∧
    exec (.ranksWrite p w) s = .next (settle { s.after p id none with ranks := w.setWidth 8 }) ∧
    ((∀ q, fieldOf (w.setWidth 8) q ≠ 3) →
      exec (.defaultRightsWrite p w) s = .next (settle { s.after p id none with defaultRights := w.setWidth 8 })) ∧
    (∀ q, fieldOf (w.setWidth 8) q = 3 →
      exec (.defaultRightsWrite p w) s = .next (settle (s.refused p .badValue 0x62 (.write w) none none))) ∧
    let l := (s.port p).lock.sel
    let policy := if w.getLsbD 15 then LockPolicy.rank else .arrival
    (policy ≠ (s.lock l).policy ∧ (s.lock l).waiters ≠ [] →
      exec (.lockCfgWrite p w) s = .next (settle (s.refused p .badState 0x32 (.write w) none (some l)))) ∧
    (policy = (s.lock l).policy ∨ (s.lock l).waiters = [] →
      exec (.lockCfgWrite p w) s =
        .next (settle (setLock l { s.lock l with policy := policy, leasePeriod := w.setWidth 8 } (s.after p id none))))

/-- A configuration write from any other port is refused with PRIVILEGE, whatever its value, and changes nothing else
(R184 case 1): every register of Table 9-1, COMMIT naming the selected descriptor (R73), and PORT_CMD. -/
def Obligations.OtherPortsRefusedPrivilege : Prop :=
  ∀ (p target : PortId) (w : Word) (s : State), Ready s p → p ≠ s.configPort →
    exec (.tickWrite p w) s = .next (settle (s.refused p .privilege 0x58 (.write w) none none)) ∧
    exec (.holdLimitWrite p w) s = .next (settle (s.refused p .privilege 0x5A (.write w) none none)) ∧
    exec (.failWordWrite p w) s = .next (settle (s.refused p .privilege 0x5C (.write w) none none)) ∧
    exec (.orphanWrite p w) s = .next (settle (s.refused p .privilege 0x5E (.write w) none none)) ∧
    exec (.ranksWrite p w) s = .next (settle (s.refused p .privilege 0x60 (.write w) none none)) ∧
    exec (.defaultRightsWrite p w) s = .next (settle (s.refused p .privilege 0x62 (.write w) none none)) ∧
    exec (.lockCfgWrite p w) s = .next (settle (s.refused p .privilege 0x32 (.write w) none none)) ∧
    exec (.commit p) s = .next (settle (s.refused p .privilege 0x3C (.write 2) (some (s.port p).region.sel) none)) ∧
    exec (.detach p target) s = .next (settle (s.refused p .privilege 0x64 (.write w) none none)) ∧
    exec (.registerWrite p .portCmd (.write w)) s = .next (settle (s.refused p .privilege 0x64 (.write w) none none))

/-! ### The region table and the access check (Chapter 3) -/

/-- LOCK_SEL and DESC_SEL take a number in range and refuse any larger word with BAD_VALUE (R26, R55, R209, R211); the
staging registers take every value and replace their own fields (R56); LOAD copies the selected entry whole (R57). That
a DESC_ATTR write keeps the guard lock bits 4–0 also when bit 7 is clear is the model's reading of R56 (log entry 18,
DEDUCED, unsafe). -/
def Obligations.SelectionAndStagingWrites : Prop :=
  ∀ (p : PortId) (w : Word) (s : State), Ready s p →
    let staged := fun (d : Descriptor) =>
      s.after p (fun r => { r with region := { r.region with staging := d } }) none
    let d := (s.port p).region.staging
    (∀ l : LockId, w.toNat = l.val →
      exec (.lockSelWrite p w) s =
        .next (settle (s.after p (fun r => { r with lock := { r.lock with sel := l } }) none))) ∧
    (31 < w.toNat → exec (.lockSelWrite p w) s = .next (settle (s.refused p .badValue 0x1E (.write w) none none))) ∧
    (∀ e : DescId, w.toNat = e.val →
      exec (.descSelWrite p w) s =
        .next (settle (s.after p (fun r => { r with region := { r.region with sel := e } }) none))) ∧
    (15 < w.toNat → exec (.descSelWrite p w) s = .next (settle (s.refused p .badValue 0x34 (.write w) none none))) ∧
    exec (.descBaseWrite p w) s = .next (settle (staged { d with base := w })) ∧
    exec (.descAttrWrite p w) s = .next (settle (staged { d with
      enabled := w.getLsbD 15, sizeCode := w.extractLsb' 8 4, guardPresent := w.getLsbD 7, scopeAll := w.getLsbD 6,
      policyClaim := w.getLsbD 5, guardLock := w.extractLsb' 0 5 })) ∧
    exec (.descRightsWrite p w) s = .next (settle (staged { d with rights := w.setWidth 8 })) ∧
    exec (.load p) s = .next (settle (staged (s.desc (s.port p).region.sel)))

/-- COMMIT from the configuration port (R59, R60): the four conditions of Table 3-3 decide; a staging copy that meets
them replaces the selected entry whole, and one that does not is BAD_DESC naming that entry. -/
def Obligations.CommitOutcome : Prop :=
  ∀ (p : PortId) (s : State), Ready s p → p = s.configPort →
    let e := (s.port p).region.sel
    let d := (s.port p).region.staging
    let passes := 4 ≤ d.sizeCode.toNat ∧ 2 ^ d.sizeCode.toNat ∣ d.base.toNat ∧ d.base.toNat < 0x8000 ∧
      ∀ q, fieldOf d.rights q ≠ 3
    (passes → exec (.commit p) s = .next (settle (setDesc e d (s.after p id none)))) ∧
    (¬ passes → exec (.commit p) s = .next (settle (s.refused p .badDesc 0x3C (.write 2) (some e) none)))

/-- The governing descriptor (R62): among the enabled descriptors that cover the address the one of smallest size
code, and among those the lowest number; none when none covers it. -/
def Obligations.GoverningDescriptor : Prop :=
  ∀ (s : State) (a : Nat),
    let covers := fun (d : DescId) => (s.desc d).enabled = true ∧ (s.desc d).base.toNat ≤ a ∧
      a < (s.desc d).base.toNat + 2 ^ (s.desc d).sizeCode.toNat
    (s.governing a = none ↔ ∀ d, ¬ covers d) ∧
    ∀ d, s.governing a = some d ↔
      covers d ∧ ∀ e, covers e → (s.desc d).sizeCode.toNat < (s.desc e).sizeCode.toNat ∨
        ((s.desc d).sizeCode = (s.desc e).sizeCode ∧ d ≤ e)

/-- The steps of the access check in their order (R64 to R67, Table 3-2): unbacked, then rights, then the guard of
the governing descriptor, passed only by the holder of its lock. That a rights value of 3, for which Table 3-2 gives no
answer and which R54 and R59 keep out, permits nothing and is answered RIGHTS is the model's reading (log entry 12,
DEDUCED). -/
def Obligations.AccessCheckOrder : Prop :=
  ∀ (s : State) (p : PortId) (t : AccessType) (a : Word),
    let value := match s.governing a.toNat with
      | some d => fieldOf (s.desc d).rights p
      | none => fieldOf s.defaultRights p
    let allowed := value = 2 ∨ (value = 1 ∧ t = .read)
    (0x8000 ≤ a.toNat → s.check p t a = .noStore) ∧
    (a.toNat < 0x8000 → ¬ allowed → s.check p t a = .rights (s.governing a.toNat)) ∧
    (a.toNat < 0x8000 → allowed →
      (s.governing a.toNat = none → s.check p t a = .permitted) ∧
      ∀ d, s.governing a.toNat = some d →
        let guarded := (s.desc d).guardPresent = true ∧ ((s.desc d).scopeAll = true ∨ t ≠ .read)
        let l : LockId := ⟨(s.desc d).guardLock.toNat, (s.desc d).guardLock.isLt⟩
        (¬ guarded → s.check p t a = .permitted) ∧
        (guarded → (s.lock l).state = .held p → s.check p t a = .permitted) ∧
        (guarded → (s.lock l).state ≠ .held p → s.check p t a = .guarded d l (s.desc d).policyClaim))

/-! ### The store access path (Chapters 4 and 5) -/

/-- PTR and OPND take every word, STEP takes the words 0x0000 to 0x007F and 0xFF80 to 0xFFFF and refuses every other
with BAD_VALUE (R97, R98). A read of DATA, XCHG or FADD and a write of DATA leave a store request at the engine
and the cycle open with RDY low, and change nothing else (R99, R100). -/
def Obligations.EngineWritesAndRequests : Prop :=
  ∀ (p : PortId) (w : Word) (s : State), Ready s p →
    let asked := fun (a : HostAccess) => setPort p { s.port p with
      engine := { (s.port p).engine with request := some a }
      bus := { strobe := true, phase := .store, next := none, data := none, nerrLow := false } } s
    exec (.ptrWrite p w) s =
      .next (settle (s.after p (fun r => { r with engine := { r.engine with ptr := w } }) none)) ∧
    exec (.opndWrite p w) s =
      .next (settle (s.after p (fun r => { r with engine := { r.engine with opnd := w } }) none)) ∧
    (w.toNat ≤ 0x7F ∨ 0xFF80 ≤ w.toNat → ∃ v : BitVec 8, v.signExtend 16 = w ∧
      exec (.stepWrite p w) s =
        .next (settle (s.after p (fun r => { r with engine := { r.engine with step := v } }) none))) ∧
    (0x7F < w.toNat → w.toNat < 0xFF80 →
      exec (.stepWrite p w) s = .next (settle (s.refused p .badValue 0x14 (.write w) none none))) ∧
    exec (.dataRead p) s = .next (settle (asked .read)) ∧
    exec (.dataWrite p w) s = .next (settle (asked (.write w))) ∧
    exec (.xchgRead p) s = .next (settle (asked .xchg)) ∧
    exec (.faddRead p) s = .next (settle (asked .fadd))

/-- A rotation grant whose check permits the access (R100 to R106, R108): the position moves to the port, the request
leaves the engine, and the access is made at PTR: a DATA write stores its word, XCHG stores OPND, FADD stores the sum,
each returns the word read, and PTR advances by STEP. Every store word but the one at PTR reads as before. -/
def Obligations.RotationGrantPermitted : Prop :=
  ∀ (p : PortId) (a : HostAccess) (s : State), s.nrst = false → s.nextGrant = some (.port p) →
    (s.port p).engine.request = some a → s.check p a.type (s.port p).engine.ptr = .permitted →
    let asked := setPort p { s.port p with engine := { (s.port p).engine with request := none } }
      { s with rotation := .port p }
    let t := asked.accessMade p a (s.port p).engine.ptr
    exec .rotationGrant s = .next (settle t) ∧
    (StoreCanonical s → ∀ b, storeRead t.store b =
      if b = (s.port p).engine.ptr.toNat then
        match a with
        | .read => storeRead s.store b
        | .write w => w
        | .xchg => (s.port p).engine.opnd
        | .fadd => storeRead s.store b + (s.port p).engine.opnd
      else storeRead s.store b)

/-- A rotation grant whose check refuses (R70, R72, R108): nERR, FAIL_WORD for a read, a record with the fields of
Table 3-6; the grant is used, and the store, PTR and every lock are unchanged. A GUARD refusal is that of the
REFUSE policy. With no request waiting, or the copy engine next, no host grant is made (R107; the model's reading of
the event without its condition, log entry 8). -/
def Obligations.RotationGrantRefused : Prop :=
  (∀ (p : PortId) (a : HostAccess) (s : State), s.nrst = false → s.nextGrant = some (.port p) →
    (s.port p).engine.request = some a →
    let asked := setPort p { s.port p with engine := { (s.port p).engine with request := none } }
      { s with rotation := .port p }
    let addr := (s.port p).engine.ptr
    (s.check p a.type addr = .noStore →
      exec .rotationGrant s = .next (settle (asked.accessRefused p a addr .noStore none none))) ∧
    (∀ d, s.check p a.type addr = .rights d →
      exec .rotationGrant s = .next (settle (asked.accessRefused p a addr .rights d none))) ∧
    (∀ d l, s.check p a.type addr = .guarded d l false →
      exec .rotationGrant s = .next (settle (asked.accessRefused p a addr .guard (some d) (some l))))) ∧
  ∀ s : State, (s.nextGrant = none ∨ s.nextGrant = some .copyEngine ∨ s.nrst = true) →
    exec .rotationGrant s = .next (settle s)

/-- The claim procedure at a grant (R74 to R78, R88): CLAIM_CONFLICT for a WAITING port, HOLD_LIMIT for a port that
holds eight locks, the lock and the access in one event when the lock is FREE, and otherwise a CLAIM entry with
HOLD_LIMIT as its patience, the access held with RDY low. -/
def Obligations.ClaimOutcomes : Prop :=
  ∀ (p : PortId) (a : HostAccess) (d : DescId) (l : LockId) (s : State), s.nrst = false →
    s.nextGrant = some (.port p) → (s.port p).engine.request = some a →
    s.check p a.type (s.port p).engine.ptr = .guarded d l true →
    let asked := setPort p { s.port p with engine := { (s.port p).engine with request := none } }
      { s with rotation := .port p }
    let addr := (s.port p).engine.ptr
    ((s.port p).lock.request.isWaiting = true →
      exec .rotationGrant s = .next (settle (asked.accessRefused p a addr .claimConflict (some d) (some l)))) ∧
    ((s.port p).lock.request.isWaiting = false → 8 ≤ (s.heldLocks p).length →
      exec .rotationGrant s = .next (settle (asked.accessRefused p a addr .holdLimit (some d) (some l)))) ∧
    ((s.port p).lock.request.isWaiting = false → (s.heldLocks p).length < 8 → (s.lock l).state = .free →
      let g := setPort p { asked.port p with
        lock := { (s.port p).lock with request := .granted l .claim }
        intr := (s.port p).intr.raised .lockOutcome } (setLock l ((s.lock l).granted p (s.lock l).waiters) asked)
      exec .rotationGrant s = .next (settle (g.accessMade p a addr))) ∧
    ((s.port p).lock.request.isWaiting = false → (s.heldLocks p).length < 8 → (s.lock l).state ≠ .free →
      exec .rotationGrant s = .next
        (settle (setPort p { asked.port p with
          lock := { (s.port p).lock with request := .waiting l .claim }
          held := some { access := a, address := addr, lock := l, desc := d }
          bus := { (s.port p).bus with phase := .claim } }
        (setLock l { s.lock l with
          waiters := insertWaiter (s.lock l).policy
            { port := p, kind := .claim, rank := fieldOf s.ranks p
              patience := if s.holdLimit = 0 then .stopped else .running s.holdLimit } (s.lock l).waiters } asked))))

/-- The rotation (R106, R107, R109): the grant goes to the waiting requester that comes first after the position, and a
requester that is passed over stands strictly nearer after the grant, so that at most four rotation grants to others
fall before its own. -/
def Obligations.RotationOrder : Prop :=
  ∀ s : State,
    (s.nextGrant = none ↔ ∀ r, s.requests r = false) ∧
    (∀ r, s.nextGrant = some r ↔
      s.requests r = true ∧
        ∀ x, s.requests x = true → rotationDistance s.rotation r ≤ rotationDistance s.rotation x) ∧
    (∀ r g, s.nextGrant = some g → s.requests r = true → r ≠ g →
      rotationDistance g r < rotationDistance s.rotation r) ∧
    ∀ r, rotationDistance s.rotation r ≤ 4

/-! ### Messages (Chapter 6) -/

/-- OUT_DATA appends to a staging buffer of fewer than six words and is STAGING_OVERFLOW at a full one (R116);
DISCARD empties the buffer and leaves the outcome and destination of SEND_RESULT (R117). -/
def Obligations.OutDataAndDiscard : Prop :=
  ∀ (p : PortId) (w : Word) (s : State), Ready s p →
    ((s.port p).msg.staging.length < 6 →
      exec (.outDataWrite p w) s =
        .next (settle (s.after p (fun r => { r with msg := { r.msg with staging := r.msg.staging ++ [w] } }) none))) ∧
    (6 ≤ (s.port p).msg.staging.length →
      exec (.outDataWrite p w) s = .next (settle (s.refused p .stagingOverflow 0x3E (.write w) none none))) ∧
    exec (.discard p) s = .next (settle (s.after p (fun r => { r with msg := { r.msg with staging := [] } }) none))

/-- SEND (R122 to R125): DETACHED, SENT with the message inserted and the staging emptied, FULL with the staging kept,
or held on the destination's hold list with the cycle open; a send to the own queue is never held. -/
def Obligations.SendOutcomes : Prop :=
  ∀ (p q : PortId) (urgent hold : Bool) (tag : BitVec 8) (s : State), Ready s p →
    let staged := (s.port p).msg.staging
    let cls := if urgent then MsgClass.urgent else .normal
    let m : Message := { sender := p, cls := cls, origin := .host, tag := tag, payload := staged }
    (¬ s.takesMessages q →
      exec (.send p q urgent hold tag) s = .next (settle (s.after p (·.sendEnded .detached q staged) none))) ∧
    (s.hasRoom q staged.length →
      exec (.send p q urgent hold tag) s = .next (settle ((s.admitted q m).after p (·.sendEnded .sent q []) none))) ∧
    (s.takesMessages q → ¬ s.hasRoom q staged.length → hold = false ∨ p = q →
      exec (.send p q urgent hold tag) s = .next (settle (s.after p (·.sendEnded .full q staged) none))) ∧
    (s.takesMessages q → ¬ s.hasRoom q staged.length → hold = true → p ≠ q →
      exec (.send p q urgent hold tag) s = .next
        (settle (setPort p { s.port p with
          bus := { strobe := true, phase := .send q, next := none, data := none, nerrLow := false } }
        (setPort q { s.port q with msg := { (s.port q).msg with
          holdList := (s.port q).msg.holdList ++ [{ sender := p, cls := cls, tag := tag, length := staged.length
                                                    hold := if s.holdLimit = 0 then .stopped
                                                            else .running s.holdLimit }] } } s))))

/-- Where an admitted message stands (R121): a NORMAL one at the end; an URGENT one after the URGENT messages and the
opened front message, before the first NORMAL message that is not opened. -/
def Obligations.MessageInsertion : Prop :=
  ∀ (m x : Message) (us ns : List Message) (opened : Bool),
    (m.cls = .normal → insertMessage opened m (us ++ ns) = us ++ ns ++ [m]) ∧
    (m.cls = .urgent → (∀ u ∈ us, u.cls = .urgent) → (∀ n ∈ ns, n.cls = .normal) →
      insertMessage false m (us ++ ns) = us ++ m :: ns ∧
      insertMessage true m (x :: (us ++ ns)) = x :: (us ++ m :: ns) ∧
      insertMessage opened m [] = [m])

/-- Reads of IN_HEAD and IN_DATA (R115, R129, R130): the header of the front message in the layout of Table 10-4, or
the payload word at the read index; the front message is opened, and the index advances to the end of the payload and
no further; an empty queue gives 0x0000 and opens nothing. -/
def Obligations.InboxReads : Prop :=
  ∀ (p : PortId) (s : State), Ready s p →
    let opening := fun (i : Nat) (w : Word) =>
      s.after p (fun r => { r with msg := { r.msg with opened := true, readIndex := i } }) (some w)
    ((s.port p).msg.queue = [] →
      exec (.inHeadRead p) s = .next (settle (s.after p id (some 0))) ∧
      exec (.inDataRead p) s = .next (settle (s.after p id (some 0)))) ∧
    ∀ m ms, (s.port p).msg.queue = m :: ms →
      let i := if (s.port p).msg.opened then (s.port p).msg.readIndex else 0
      exec (.inHeadRead p) s = .next (settle (opening 0 (headerWord m))) ∧
      (∀ w, m.payload[i]? = some w → exec (.inDataRead p) s = .next (settle (opening (i + 1) w))) ∧
      (m.payload[i]? = none → exec (.inDataRead p) s = .next (settle (opening i 0))) ∧
      headerWord m ≠ 0 ∧
      (m.payload.length ≤ 6 →
        (headerWord m).toNat = (match m.cls with | .normal => 1 | .urgent => 2) * 2 ^ 14 + m.sender.val * 2 ^ 12 +
          (match m.origin with | .host => 0 | .copy => 1) * 2 ^ 11 + m.payload.length * 2 ^ 8 + m.tag.toNat)

/-- POP removes the front message whole and FLUSH every message; the opened marker goes, the hold list is drained, and
no cause is cleared (R133, R134); POP on an empty queue changes nothing. What a drain does is DrainOfHoldList. -/
def Obligations.PopAndFlush : Prop :=
  ∀ (p : PortId) (s : State), Ready s p →
    let left := fun (ms : List Message) => setPort p { s.port p with
      msg := { (s.port p).msg with queue := ms, opened := false, readIndex := 0 } } s
    ((s.port p).msg.queue = [] → exec (.pop p) s = .next (settle (s.after p id none))) ∧
    (∀ m ms, (s.port p).msg.queue = m :: ms → (∀ e ∈ (s.port p).msg.holdList, e.sender ≠ p) →
      exec (.pop p) s = .next (settle ((drain p (left ms)).after p id none))) ∧
    ((∀ e ∈ (s.port p).msg.holdList, e.sender ≠ p) →
      exec (.flush p) s = .next (settle ((drain p (left [])).after p id none)))

/-- The drain of a hold list (R136): the head is admitted while its message fits, with its sender's staging emptied,
SENT in its SEND_RESULT and its cycle completed unless a detach has already ended it (R141); the drain stops at the
first head that does not fit and at the end of the list. Over an empty queue, as FLUSH leaves it (PopAndFlush), a drain
admits every held send (R134). -/
def Obligations.DrainOfHoldList : Prop :=
  (∀ (q : PortId) (s : State),
    ((s.port q).msg.holdList = [] → drain q s = s) ∧
    ∀ e es, (s.port q).msg.holdList = e :: es →
      let used := ((s.port q).msg.queue.map fun m => 1 + m.payload.length).sum
      (32 < used + 1 + e.length → drain q s = s) ∧
      (used + 1 + e.length ≤ 32 → e.sender ≠ q →
        let p := e.sender
        let m : Message := { sender := p, cls := e.cls, origin := .host, tag := e.tag
                             payload := (s.port p).msg.staging }
        let t := State.admitted (setPort q { s.port q with msg := { (s.port q).msg with holdList := es } } s) q m
        ((s.port p).bus.phase = .send q →
          drain q s = drain q (t.completing p (·.sendEnded .sent q []) none false)) ∧
        ((s.port p).bus.phase ≠ .send q →
          drain q s = drain q (setPort p ((s.port p).sendEnded .sent q []) t)))) ∧
  ∀ (p : PortId) (s : State), MessagesOk s → (s.port p).msg.queue = [] → ((drain p s).port p).msg.holdList = []

/-- The expiry of a held send (R138): the entry leaves the list, SEND_RESULT shows FULL with the staging kept, the
cycle completes without nERR unless a detach has already ended it, and the list is drained when the entry was the
head. The mark of an expiry is the model's (log entry 5), and so is that the command without an expired entry of the
sender changes nothing (log entry 8, DESIGN CHOICE). -/
def Obligations.HoldExpiryOutcome : Prop :=
  ∀ (q p : PortId) (s : State), s.nrst = false → p ≠ q →
    (∀ e us vs, (s.port q).msg.holdList = us ++ e :: vs → e.sender = p → (∀ x ∈ us ++ vs, x.sender ≠ p) →
      e.hold = .due →
      let left := fun (s : State) => setPort q { s.port q with
        msg := { (s.port q).msg with holdList := us ++ vs } } s
      let drained := fun (s : State) => if us = [] then drain q (left s) else left s
      ((s.port p).bus.phase = .send q →
        exec (.holdExpiry q p) s =
          .next (settle (drained (s.completing p (·.sendEnded .full q (s.port p).msg.staging) none false)))) ∧
      ((s.port p).bus.phase ≠ .send q →
        exec (.holdExpiry q p) s =
          .next (settle (drained (setPort p ((s.port p).sendEnded .full q (s.port p).msg.staging) s))))) ∧
    ((∀ e ∈ (s.port q).msg.holdList, e.sender = p → e.hold ≠ .due) → exec (.holdExpiry q p) s = .next (settle s))

/-! ### The copy engine (Chapter 7) -/

/-- The copy parameters: COPY_SRC, COPY_DST and COPY_NOTICE take every word, COPY_COUNT 0 to 4095 and refuses every
other with BAD_VALUE (R143); no job is reached. -/
def Obligations.CopyParameterWrites : Prop :=
  ∀ (p : PortId) (w : Word) (s : State), Ready s p →
    let set := fun (f : CopyPortRecord → CopyPortRecord) => s.after p (fun r => { r with copy := f r.copy }) none
    exec (.copySrcWrite p w) s = .next (settle (set fun c => { c with src := w })) ∧
    exec (.copyDstWrite p w) s = .next (settle (set fun c => { c with dst := w })) ∧
    (w.toNat ≤ 4095 → exec (.copyCountWrite p w) s = .next (settle (set fun c => { c with count := w }))) ∧
    (4095 < w.toNat → exec (.copyCountWrite p w) s = .next (settle (s.refused p .badValue 0x4E (.write w) none none))) ∧
    ∃ q : PortId, q.val = (w.extractLsb' 8 2).toNat ∧
      exec (.copyNoticeWrite p w) s = .next (settle (set fun c => { c with
        noticeFlag := w.getLsbD 15, notice := { port := q, tag := w.setWidth 8 } }))

/-- START (R145, R146, R148): BUSY, BAD_COUNT and BAD_RANGE write the submission result alone; an accepted START makes
the job of Table 7-1 with the direction of R146 at the end of the queue, RUNNING with its first source read presented
when the queue was empty, and replaces every field of COPY_STATUS. -/
def Obligations.StartAnswers : Prop :=
  ∀ (p : PortId) (s : State), Ready s p →
    let c := (s.port p).copy
    let answered := fun (r : Submission) => s.after p (fun x => { x with copy := { x.copy with submission := r } }) none
    let inRange := c.src.toNat + c.count.toNat ≤ 0x8000 ∧ c.dst.toNat + c.count.toNat ≤ 0x8000
    let state := if s.jobs = [] then JobState.running else .queued
    (∀ j ∈ s.jobs, j.requester = p → exec (.start p) s = .next (settle (answered .busy))) ∧
    ((∀ j ∈ s.jobs, j.requester ≠ p) →
      (c.count = 0 → exec (.start p) s = .next (settle (answered .badCount))) ∧
      (c.count ≠ 0 → ¬ inRange → exec (.start p) s = .next (settle (answered .badRange))) ∧
      (c.count ≠ 0 → inRange →
        exec (.start p) s = .next (settle { s.after p (fun x => { x with copy := { x.copy with
            submission := .accepted, jobState := state, fault := .none, moved := 0
            noticeOutcome := if c.noticeFlag then .pending else .none } }) none with
          jobs := s.jobs ++ [{
            requester := p, source := c.src, destination := c.dst, count := c.count.toNat
            direction := if c.src.toNat < c.dst.toNat ∧ c.dst.toNat < c.src.toNat + c.count.toNat then .descending
                         else .ascending
            notice := if c.noticeFlag then some c.notice else none
            state := state, moved := 0, cancelMarked := false }]
          copyWord := if s.jobs = [] then some { index := 0, phase := .source } else s.copyWord })))

/-- COPY_CMD CANCEL (R154 to R156): without a job of the port nothing changes; a QUEUED job and a RUNNING one with no
word in progress end CANCELLED in the event; a word in progress is left to finish, and the job is marked. What an ending
does is JobEnding. -/
def Obligations.CopyCancelOutcome : Prop :=
  ∀ (p : PortId) (s : State), Ready s p →
    ((∀ j ∈ s.jobs, j.requester ≠ p) → exec (.copyCancel p) s = .next (settle (s.after p id none))) ∧
    (∀ j js, s.jobs = j :: js → j.requester = p →
      (∀ i w, s.copyWord = some { index := i, phase := .destination w } →
        exec (.copyCancel p) s =
          .next (settle { s.after p id none with jobs := { j with cancelMarked := true } :: js })) ∧
      (∀ i, s.copyWord = some { index := i, phase := .source } →
        exec (.copyCancel p) s = .next (settle ((endJob j .cancelled .none s).after p id none)))) ∧
    (∀ h us k vs, s.jobs = h :: (us ++ k :: vs) → k.requester = p → h.requester ≠ p →
      (∀ x ∈ us, x.requester ≠ p) →
      exec (.copyCancel p) s = .next (settle ((endJob k .cancelled .none s).after p id none)))

/-- A grant to the source read of word i (R150, R152): the word at the source address of Table 7-2 is read for the
destination write, or the job ends FAULTED with a record of source COPY and no nERR. The rotation position becomes the
copy engine's. When the next grant is not the copy engine's, or its word is not in phase SOURCE, there is no source
read and the state is unchanged (the model's reading, log entry 8). -/
def Obligations.SourceReadOutcome : Prop :=
  (∀ (s : State) (j : Job) (js : List Job) (i : Nat), s.nrst = false → s.nextGrant = some .copyEngine →
    s.jobs = j :: js → s.copyWord = some { index := i, phase := .source } → i < j.count →
    let addr := match j.direction with
      | .ascending => j.source + BitVec.ofNat 16 i
      | .descending => j.source + BitVec.ofNat 16 (j.count - 1 - i)
    let t := { s with rotation := .copyEngine }
    let record := t.copyRefused j.requester .read addr
    (s.check j.requester .read addr = .permitted →
      exec .sourceRead s = .next { t with
        copyWord := some { index := i, phase := .destination (storeRead s.store addr.toNat) } }) ∧
    (∀ d, s.check j.requester .read addr = .rights d →
      exec .sourceRead s = .next (endJob j .faulted .rights (record .rights d none))) ∧
    (∀ d l c, s.check j.requester .read addr = .guarded d l c →
      exec .sourceRead s = .next (endJob j .faulted .guard (record .guard (some d) (some l))))) ∧
  ∀ s : State, (s.nrst = true ∨ s.nextGrant ≠ some .copyEngine ∨ s.jobs = [] ∨
    ∀ i, s.copyWord ≠ some { index := i, phase := .source }) → exec .sourceRead s = .next s

/-- A grant to the destination write of word i (R151, R152, R156): the held word is stored at the destination address
of Table 7-2 and moved increases; the job ends CANCELLED when it is marked, DONE at its last word, and otherwise the
next source read is presented; a refused check ends it FAULTED with nothing stored. When the next grant is not the copy
engine's, or its word is not in phase DESTINATION, nothing changes (the model's reading, log entry 8). -/
def Obligations.DestinationWriteOutcome : Prop :=
  (∀ (s : State) (j : Job) (js : List Job) (i : Nat) (w : Word), s.nrst = false →
    s.nextGrant = some .copyEngine → s.jobs = j :: js →
    s.copyWord = some { index := i, phase := .destination w } → i < j.count →
    let addr := match j.direction with
      | .ascending => j.destination + BitVec.ofNat 16 i
      | .descending => j.destination + BitVec.ofNat 16 (j.count - 1 - i)
    let t := { s with rotation := .copyEngine }
    let record := t.copyRefused j.requester .write addr
    let moved := { j with moved := j.moved + 1 }
    let stored := { t with store := storeWrite s.store addr.toNat w, jobs := moved :: js }
    (s.check j.requester .write addr = .permitted →
      (j.cancelMarked = true → exec .destinationWrite s = .next (endJob moved .cancelled .none stored)) ∧
      (j.cancelMarked = false → i + 1 = j.count →
        exec .destinationWrite s = .next (endJob moved .done .none stored)) ∧
      (j.cancelMarked = false → i + 1 < j.count →
        exec .destinationWrite s = .next { stored with copyWord := some { index := i + 1, phase := .source } })) ∧
    (∀ d, s.check j.requester .write addr = .rights d →
      exec .destinationWrite s = .next (endJob j .faulted .rights (record .rights d none))) ∧
    (∀ d l c, s.check j.requester .write addr = .guarded d l c →
      exec .destinationWrite s = .next (endJob j .faulted .guard (record .guard (some d) (some l))))) ∧
  ∀ s : State, (s.nrst = true ∨ s.nextGrant ≠ some .copyEngine ∨ s.jobs = [] ∨
    ∀ i w, s.copyWord ≠ some { index := i, phase := .destination w }) → exec .destinationWrite s = .next s

/-- The ending of a job (R147, R148, R153, R158, R159): the job leaves the queue, its final values stand in COPY_STATUS
and COPY_MOVED with COPY_END set, a notice is admitted and POSTED or dropped, and the next job becomes RUNNING with
its first source read presented. -/
def Obligations.JobEnding : Prop :=
  ∀ (s : State) (j : Job) (final : JobState) (fk : JobFault), JobsOk s → (∃ k ∈ s.jobs, k.requester = j.requester) →
    let r := s.port j.requester
    let ended := fun (n : NoticeOutcome) => setPort j.requester { r with
      copy := { r.copy with jobState := final, fault := fk, moved := j.moved, noticeOutcome := n }
      intr := r.intr.raised .copyEnd } (s.withoutJobOf j.requester)
    (j.notice = none → endJob j final fk s = ended r.copy.noticeOutcome) ∧
    ∀ n, j.notice = some n →
      let m : Message := { sender := j.requester, cls := .normal, origin := .copy, tag := n.tag
                           payload := [jobStateCode final ++ jobFaultCode fk ++ (0 : BitVec 11),
                                       BitVec.ofNat 16 j.moved] }
      (s.hasRoom n.port 2 → endJob j final fk s = (ended .posted).admitted n.port m) ∧
      (¬ s.hasRoom n.port 2 → endJob j final fk s = ended .dropped)

/-- The direction of a job is safe for every overlap (R146): moving the words of a job in its own order leaves the
destination block with the words the source block held at the start, and every word outside it as it was. -/
def Obligations.CopyDirectionOverlapSafe : Prop :=
  ∀ (j : Job) (m : Store), storeWf m → j.source.toNat + j.count ≤ 0x8000 → j.destination.toNat + j.count ≤ 0x8000 →
    j.direction = directionOf j.source.toNat j.destination.toNat j.count →
    let after := j.moveAll (List.range j.count) m
    (∀ i, i < j.count → storeRead after (j.destination.toNat + i) = storeRead m (j.source.toNat + i)) ∧
    ∀ a, a < j.destination.toNat ∨ j.destination.toNat + j.count ≤ a → storeRead after a = storeRead m a

/-! ### Causes, faults and register cycles (Chapters 8 and 10) -/

/-- INT_CAUSE clears by ones, position by position, REVOKED only while the revoked set is empty (R170, R171); INT_MASK
replaces the enables (R173); REVOKED_LO and REVOKED_HI remove locks from the set and clear no cause (R14); POP removes
the oldest record and CLEAR_OVERRUN the flag (R180); and nINT is asserted exactly while the port is ATTACHED with a
cause both set and unmasked (R174). -/
def Obligations.CauseAndFaultWrites : Prop :=
  (∀ (p : PortId) (w : Word) (s : State), Ready s p →
    let after := fun (f : InterruptRecord → InterruptRecord) => s.after p (fun r => { r with intr := f r.intr }) none
    let revoked := fun (b : BitVec 32) => s.after p (fun r => { r with lock := { r.lock with revoked := b } }) none
    (∃ c : BitVec 7, exec (.intCauseWrite p w) s = .next (settle (after fun i => { i with causes := c })) ∧
      ∀ k : Fin 7, c.getLsbD k.val =
        ((s.port p).intr.causes.getLsbD k.val &&
          !(w.getLsbD k.val && (k.val != 1 || (s.port p).lock.revoked == 0)))) ∧
    exec (.intMaskWrite p w) s = .next (settle (after fun i => { i with mask := w.setWidth 7 })) ∧
    (∃ b : BitVec 32, exec (.revokedLoWrite p w) s = .next (settle (revoked b)) ∧
      ∀ l : LockId, b.getLsbD l.val =
        ((s.port p).lock.revoked.getLsbD l.val && !(decide (l.val < 16) && w.getLsbD l.val))) ∧
    (∃ b : BitVec 32, exec (.revokedHiWrite p w) s = .next (settle (revoked b)) ∧
      ∀ l : LockId, b.getLsbD l.val =
        ((s.port p).lock.revoked.getLsbD l.val && !(decide (16 ≤ l.val) && w.getLsbD (l.val - 16)))) ∧
    exec (.faultPop p) s = .next (settle (after fun i => { i with faults := i.faults.drop 1 })) ∧
    exec (.clearOverrun p) s = .next (settle (after fun i => { i with overrun := false }))) ∧
  ∀ (p : PortId) (s : State), s.nintLow p = true ↔
    s.nrst = false ∧ (s.port p).attach.attached = true ∧
      ∃ k : Fin 7, (s.port p).intr.causes.getLsbD k.val = true ∧ (s.port p).intr.mask.getLsbD k.val = true

/-- Register cycles that have no row of their own (R209, R210): a read returns the register's value, which
RegisterValues gives field by field, and 0x0000 at a register that is only written; a write of a register that is only
read and a command code that names no command are BAD_VALUE; a cycle at an unassigned offset is UNASSIGNED. Nothing
behind the register changes. That a DESC_CMD code which names no command is BAD_VALUE from every port, where R184 judges
a configuration write by the port first, is the model's reading of R58 (log entry 11, DEDUCED, unsafe). -/
def Obligations.RegisterCycles : Prop :=
  ∀ (p : PortId) (w : Word) (s : State), Ready s p →
    let bad := fun (r : Reg) (off : Word) =>
      exec (.registerWrite p r (.write w)) s = .next (settle (s.refused p .badValue off (.write w) none none))
    (∀ r, r ∉ [Reg.data, .xchg, .fadd, .inHead, .inData] →
      exec (.registerWrite p r .read) s = .next (settle (s.after p id (some (registerValue s p r))))) ∧
    (∀ r ∈ [Reg.lockCmd, .descCmd, .outData, .outCmd, .copyCmd, .portCmd], registerValue s p r = 0) ∧
    (∀ ro ∈ [(Reg.portId, (0x00 : Word)), (.peers, 0x04), (.faultHead, 0x0A), (.faultAddr, 0x0C), (.faultLock, 0x0E),
      (.xchg, 0x1A), (.fadd, 0x1C), (.lockResult, 0x22), (.waitState, 0x24), (.heldLo, 0x26), (.heldHi, 0x28),
      (.lockView, 0x2E), (.lockWaiters, 0x30), (.sendResult, 0x42), (.inHead, 0x44), (.inData, 0x46),
      (.copyStatus, 0x54), (.copyMoved, 0x56)], bad ro.1 ro.2) ∧
    (w.extractLsb' 13 3 = 0 ∨ w.extractLsb' 13 3 = 7 → bad .lockCmd 0x20) ∧
    (w.extractLsb' 0 2 = 0 ∨ w.extractLsb' 0 2 = 3 →
      bad .descCmd 0x3C ∧ bad .inCtrl 0x48 ∧ bad .copyCmd 0x52 ∧ bad .faultCtrl 0x10 ∧ bad .portState 0x02) ∧
    (w.extractLsb' 14 2 = 0 ∨ w.extractLsb' 14 2 = 3 → bad .outCmd 0x40) ∧
    (p = s.configPort → w.extractLsb' 14 2 ≠ 1 → bad .portCmd 0x64) ∧
    ∀ (addr : BitVec 6) (op : CycleOp), 0x33 ≤ addr.toNat →
      exec (.unassignedAccess p addr op) s =
        .next (settle (s.refused p .unassigned (BitVec.ofNat 16 (2 * addr.toNat)) op none none))

/-- The window of a detached port (R192, R197, R198, R212): PORT_ID and PORT_STATE are read, every other read returns
0x0000, every write but a JOIN that reattaches is ignored, no cycle gives nERR or a record, and every window command
is answered so; a JOIN after a detach by COMMAND or LEAVE with its teardown complete reattaches. An attached port's
JOIN changes nothing (R190). -/
def Obligations.DetachedWindow : Prop :=
  (∀ (p : PortId) (s : State), ReadyDetached s p →
    let a := (s.port p).attach
    (∀ addr, exec (.detachedWindowCycle p addr .read) s = .next (settle (s.after p id (some
      (if addr = 0 then BitVec.ofNat 16 (256 * s.configPort.val + p.val)
       else if addr = 1 then BitVec.ofNat 16 (0x8000 +
         256 * (match a.reason with | .none => 0 | .pin => 1 | .command => 2 | .leave => 3) + a.pending.toNat)
       else 0))))) ∧
    (∀ addr w, ¬ (addr = 1 ∧ w.extractLsb' 0 2 = 2) →
      exec (.detachedWindowCycle p addr (.write w)) s = .next (settle (s.after p id none))) ∧
    (∀ i c, encodeCycle i = some (p, c) → exec i s = exec (.detachedWindowCycle p c.addr c.op) s) ∧
    (a.reason = .command ∨ a.reason = .leave → a.pending = false → ∃ t, exec (.join p) s = .next (settle t) ∧
      PeersTold p (s.after p (fun r => { r with attach := AttachRecord.attachedNow }) none) t) ∧
    (a.reason = .none ∨ a.reason = .pin ∨ a.pending = true → exec (.join p) s = .next (settle (s.after p id none)))) ∧
  ∀ (p : PortId) (s : State), Ready s p → exec (.join p) s = .next (settle (s.after p id none))

/-- The ends of a bus cycle and the cycle that waits behind an open one (R203 to R206, R208). The host's end of its
strobe floats the data and raises nERR of a completed cycle and leaves an open one open; that it also drops the cycle
that waits, and that a later cycle replaces a waiting one, is the model's reading of R208 (log entry 9, DEDUCED, unsafe).
A bus in reset takes no cycle; that the command then asserts the strobe is log entry 24 (DEDUCED). A completion that no
strobe sees drives nothing, and one behind which a cycle waits leaves its data and nERR unseen. The event that completes
a cycle takes the one that waits behind it, as the command it decodes to or, at a detached port, as R192 gives, and
leaves no cycle due; the order among ports, lowest number first, is the model's (log entry 4). -/
def Obligations.CycleEndAndWaitingCycle : Prop :=
  (∀ (p : PortId) (s : State),
    let b := (s.port p).bus
    let with' := fun (b : Bus) => setPort p { s.port p with bus := b } s
    (b.strobe = true → b.phase = .idle →
      exec (.cycleEnd p) s = .next (with' { b with strobe := false, data := none, nerrLow := false })) ∧
    (b.strobe = true → b.phase ≠ .idle →
      exec (.cycleEnd p) s = .next (with' { b with strobe := false, next := none })) ∧
    (b.strobe = false → exec (.cycleEnd p) s = .next s) ∧
    (∀ i c, encodeCycle i = some (p, c) →
      (s.nrst = false → (s.port p).prst = false → b.phase ≠ .idle →
        exec i s = .next (settle (with' { b with strobe := true, next := some c }))) ∧
      (s.nrst = true ∨ (s.port p).prst = true → exec i s = .next (settle (with' { b with strobe := true }))))) ∧
  (∀ (b : Bus) (data : Option Word) (err : Bool),
    (b.strobe = true → b.next = none →
      b.complete data err = { strobe := true, phase := .idle, next := none, data := data, nerrLow := err }) ∧
    (b.strobe = true → b.next ≠ none →
      b.complete data err = { strobe := true, phase := .idle, next := b.next, data := none, nerrLow := false }) ∧
    (b.strobe = false →
      b.complete data err = { strobe := false, phase := .idle, next := none, data := none, nerrLow := false })) ∧
  ∀ s : State,
    let due := fun (p : PortId) => s.nrst = false ∧ (s.port p).prst = false ∧ (s.port p).bus.strobe = true ∧
      (s.port p).bus.phase = .idle ∧ (s.port p).bus.next ≠ none
    ((∀ p, ¬ due p) → settle s = s) ∧
    (∀ p c, due p → (∀ q, q < p → ¬ due q) → (s.port p).bus.next = some c →
      let begun := setPort p { s.port p with
        bus := { strobe := true, phase := .idle, next := none, data := none, nerrLow := false } } s
      ((s.port p).attach.attached = true → exec (decodeCycle p c) begun = .next (settle s)) ∧
      ((s.port p).attach.attached = false → exec (.detachedWindowCycle p c.addr c.op) begun = .next (settle s))) ∧
    (WaitingCyclesOk s → settle s = s) ∧ ∀ p, (settle s).cycleDue p = false

/-! ### Detach and reattach (Chapter 9) -/

/-- PORT_CMD DETACH from the configuration port (R188): BAD_VALUE for itself, no change for a detached port, and the
detach event with reason COMMAND for an attached one, whose open cycle ends without nERR, a read with 0x0000 (R85,
R112, R141), seen or, when its host has released the strobe or started another cycle, unseen (R208). That a cycle which
waits behind the one so ended is then taken by the detached window is log entry 21 (DEDUCED, unsafe). LEAVE is the
writer's own detach event, its cycle completed (R190, R191). -/
def Obligations.DetachAndLeave : Prop :=
  (∀ (p q : PortId) (s : State), Ready s p → p = s.configPort →
    let r := s.port q
    let gone := fun (b : Bus) => (setPort q (r.detachedBy .command b) s).after p id none
    (q = p → exec (.detach p q) s = .next
      (settle (s.refused p .badValue 0x64 (.write (BitVec.ofNat 16 (0x4000 + q.val))) none none))) ∧
    (q ≠ p → r.attach.attached = false → exec (.detach p q) s = .next (settle (s.after p id none))) ∧
    (q ≠ p → r.attach.attached = true →
      (∀ a, r.bus.phase = .store → r.engine.request = some a →
        exec (.detach p q) s = .next (settle (gone (r.bus.complete (a.returns 0) false)))) ∧
      (∀ h, r.bus.phase = .claim → r.held = some h →
        exec (.detach p q) s = .next (settle (gone (r.bus.complete (h.access.returns 0) false)))) ∧
      (∀ d, r.bus.phase = .send d → exec (.detach p q) s = .next (settle (gone (r.bus.complete none false)))) ∧
      (r.bus.phase = .idle → exec (.detach p q) s = .next (settle (gone r.bus))))) ∧
  ∀ (p : PortId) (s : State), Ready s p →
    exec (.leave p) s = .next (settle (setPort p ((s.port p).detachedBy .leave (Bus.answered none false)) s))

/-- The pins nPRST (R189, R190, R197, R203): assertion is an attached port's detach event with reason PIN and puts the
bus in reset, and gives a detached port the reason PIN; release reattaches a port whose reason is PIN once its
teardown is complete. Under nRST the level alone is kept. -/
def Obligations.PortResetPins : Prop :=
  ∀ (p : PortId) (s : State),
    let r := s.port p
    ((s.port p).prst = true → exec (.portResetAssert p) s = .next s) ∧
    ((s.port p).prst = false →
      (s.nrst = true → exec (.portResetAssert p) s = .next (setPort p { r with prst := true } s)) ∧
      (s.nrst = false → r.attach.attached = true →
        exec (.portResetAssert p) s =
          .next (setPort p { r.detachedBy .pin r.bus.inReset with prst := true } s)) ∧
      (s.nrst = false → r.attach.attached = false →
        exec (.portResetAssert p) s = .next (setPort p { r with
          prst := true, attach := { r.attach with reason := .pin }, bus := r.bus.inReset } s))) ∧
    let rejoins := r.prst = true ∧ s.nrst = false ∧ r.attach.attached = false ∧ r.attach.reason = .pin ∧
      r.attach.pending = false
    (rejoins → ∃ t, exec (.portResetRelease p) s = .next t ∧
      PeersTold p (setPort p { r with prst := false, attach := AttachRecord.attachedNow } s) t) ∧
    (¬ rejoins → exec (.portResetRelease p) s = .next (setPort p { r with prst := false } s))

/-- The lock table's teardown (R193, R194): the withdrawal removes the port's entry, makes its record IDLE without a
cause, and fixes the locks to release; a release event hands its lock over or orphans it by the ORPHAN value at that
event, without a revocation, and changes nothing at a lock the port no longer holds. An event that is not to come
changes nothing (the model's reading, log entry 8). -/
def Obligations.WithdrawalAndRelease : Prop :=
  ∀ (p : PortId) (s : State),
    let r := s.port p
    (TearingDown s p → r.attach.withdrawn = false → ∃ ls : List LockId, ls.Nodup ∧
      (∀ l, l ∈ ls ↔ (s.lock l).state = .held p) ∧
      let fixed := { r.attach with withdrawn := true, toRelease := ls }
      (∀ l k, r.lock.request = .waiting l k →
        exec (.withdrawal p) s = .next (setPort p { r with lock := { r.lock with request := .idle }, attach := fixed }
          (setLock l { s.lock l with
            waiters := (s.lock l).waiters.filter fun w => decide (w.port ≠ p) } s))) ∧
      (r.lock.request.isWaiting = false →
        exec (.withdrawal p) s = .next (setPort p { r with attach := fixed } s))) ∧
    (∀ l, TearingDown s p → r.attach.withdrawn = true → l ∈ r.attach.toRelease →
      let t := setPort p { r with attach := { r.attach with
        toRelease := r.attach.toRelease.filter fun m => decide (m ≠ l) } } s
      ((s.lock l).state = .held p → s.orphan = .handover → exec (.releaseEvent p l) s = .next (settle (handover l t))) ∧
      ((s.lock l).state = .held p → s.orphan = .orphan →
        exec (.releaseEvent p l) s =
          .next (settle (setLock l { s.lock l with state := .orphaned, lease := .stopped } t))) ∧
      ((s.lock l).state ≠ .held p → exec (.releaseEvent p l) s = .next (settle t))) ∧
    (¬ TearingDown s p ∨ r.attach.withdrawn = true → exec (.withdrawal p) s = .next s) ∧
    ∀ l, ¬ TearingDown s p ∨ r.attach.withdrawn = false ∨ l ∉ r.attach.toRelease →
      exec (.releaseEvent p l) s = .next (settle s)

/-- The message unit's teardown (R140, R141, R195): the queue is emptied without a drain, every send held on the port's
list ends DETACHED with its staging kept and its cycle completed, and the port's own records return to reset; an entry
of the port in another list is removed, and that list drained when it was the head. -/
def Obligations.MessageTeardown : Prop :=
  ∀ (p : PortId) (s : State), TearingDown s p → (s.port p).attach.messagesDown = false →
    let r := s.port p
    ((∀ q, ∀ e ∈ (s.port q).msg.holdList, e.sender ≠ p) → ∃ t,
      exec (.messageUnitTeardown p) s = .next (settle t) ∧
      t = { s with ports := t.ports } ∧
      t.port p = { r with msg := MessagePortRecord.reset, attach := { r.attach with messagesDown := true } } ∧
      ∀ q, q ≠ p → t.port q =
        if ∃ e ∈ r.msg.holdList, e.sender = q then
          { (s.port q).sendEnded .detached p (s.port q).msg.staging with
            bus := if (s.port q).bus.phase = .send p then (s.port q).bus.complete none false else (s.port q).bus }
        else s.port q) ∧
    (MessagesOk s → ∀ q e us vs, (s.port q).msg.holdList = us ++ e :: vs → e.sender = p →
      let left := setPort q { s.port q with msg := { (s.port q).msg with holdList := us ++ vs } } s
      exec (.messageUnitTeardown p) s = exec (.messageUnitTeardown p) (if us = [] then drain q left else left))

/-- The copy engine's teardown (R163, R195): the port's job leaves the queue without an ending, its held word
discarded, and the next job runs when it was the head; without a job nothing else changes. -/
def Obligations.CopyTeardown : Prop :=
  ∀ (p : PortId) (s : State), TearingDown s p → (s.port p).attach.copyDown = false → JobsOk s →
    let down := fun (s : State) =>
      setPort p { s.port p with attach := { (s.port p).attach with copyDown := true } } s
    ((∃ j ∈ s.jobs, j.requester = p) → exec (.copyEngineTeardown p) s = .next (down (s.withoutJobOf p))) ∧
    ((∀ j ∈ s.jobs, j.requester ≠ p) → exec (.copyEngineTeardown p) s = .next (down s))

/-- The completion event (R196, R197): once every teardown event is taken the port's records take their reset values,
the flag is cleared, PEER_CHANGE is set at the other attached ports, and a port whose reason is PIN with its pin
released reattaches in the same event. Before that there is no completion (the model's reading, log entry 8). -/
def Obligations.CompletionOutcome : Prop :=
  ∀ (p : PortId) (s : State),
    let r := s.port p
    let allDown := r.attach.withdrawn = true ∧ r.attach.toRelease = [] ∧ r.attach.messagesDown = true ∧
      r.attach.copyDown = true
    (TearingDown s p → allDown → ∃ t, exec (.completionEvent p) s = .next t ∧
      PeersTold p (setPort p { r with
        engine := { ptr := 0, step := 1, opnd := 0, request := none }
        held := none
        lock := { request := .idle, revoked := 0, sel := 0, result := { outcome := .none, lock := 0 } }
        region := { sel := 0, staging := Descriptor.reset }
        copy := CopyPortRecord.reset
        intr := { causes := 0, mask := 0, faults := [], overrun := false }
        attach := if r.attach.reason = .pin ∧ r.prst = false then AttachRecord.attachedNow
                  else { r.attach with pending := false, withdrawn := false, toRelease := [], messagesDown := false,
                                       copyDown := false } } s) t) ∧
    (¬ TearingDown s p ∨ ¬ allDown → exec (.completionEvent p) s = .next s)

/-! ### The window as a decoder (Chapter 10) -/

/-- Decode and encode agree: the cycle that spells a well-formed window command decodes to that command, every operand
at every value, and every cycle decodes to a well-formed command at its own address. -/
def Obligations.DecodeOfEncodedCycle : Prop :=
  (∀ (i : Instr) (p : PortId) (c : BusCycle), wellFormed i = true → encodeCycle i = some (p, c) →
    decodeCycle p c = i) ∧
  ∀ (p : PortId) (c : BusCycle), wellFormed (decodeCycle p c) = true ∧
    ∃ d, encodeCycle (decodeCycle p c) = some (p, d) ∧ d.addr = c.addr

/-- Every cycle of an attached window completes as the command it decodes to: the command's meaning is what the
register at the cycle's offset does with the cycle (R204, R209, R210, Tables 10-3 to 10-5). -/
def Obligations.WindowCycleRunsDecodedCommand : Prop :=
  ∀ (p : PortId) (c : BusCycle) (s : State), Ready s p →
    exec (decodeCycle p c) s = .next (settle (windowAccess p c (setPort p { s.port p with
      bus := { strobe := true, phase := .idle, next := none, data := none, nerrLow := false } } s)))

/-! ### Invariants that every step keeps -/

/-- Every step keeps the store's canonical form: word addresses strictly rising, backed, and no listed word equal to
what an unlisted one reads as (the form is the model's, log entry 1). -/
def Obligations.StoreCanonicalKept : Prop :=
  ∀ s t : State, StoreCanonical s → step s = .next t → StoreCanonical t

/-- R171: the REVOKED cause stays set while the port's revoked set is not empty. -/
def Obligations.RevokedShownKept : Prop :=
  ∀ s t : State, RevokedShown s → step s = .next t → RevokedShown t

/-- The configuration values and the table entries stay among the accepted ones (Table 9-1, R59), and no fault queue
passes four records (R177). -/
def Obligations.ConfigurationLegalKept : Prop :=
  ∀ s t : State, step s = .next t →
    (ConfigLegal s → ConfigLegal t) ∧ (FaultQueuesBounded s → FaultQueuesBounded t)

/-- The structure of the lock table is kept: a FREE lock has no waiters, a holder never waits for its lock, a port
stands in the one list its WAITING record names (R4, R11), a list under RANK is ordered by entry rank (R7, the premise of
WaiterInsertion), and the record is WAITING with kind CLAIM exactly while the held-access record is present, no teardown
pending (R80); and with it no port passes HOLD_MAX (R13). -/
def Obligations.LockTableKept : Prop :=
  ∀ s t : State, LockTableOk s → step s = .next t → LockTableOk t ∧ (HoldMaxKept s → HoldMaxKept t)

/-- The job queue is kept in order (R145, R147 to R149), and on such a state every step goes on: a copy word never
meets an unbacked address. -/
def Obligations.JobsKept : Prop :=
  ∀ s : State, JobsOk s → ∃ t, step s = .next t ∧ JobsOk t

/-- Queues stay within 32 words and staging within six, every hold-list entry stands for one send still held, of
another port, with its length, and every held send has its entry (R80, R116, R119, R125, R126). A cycle waits only
behind an open one (R204, R208), and none in reset (R203); that it waits only under its host's strobe is the model's
reading of R208, by which the strobe's end drops it (log entry 9, DEDUCED, unsafe). -/
def Obligations.MessagesKept : Prop :=
  ∀ s t : State, step s = .next t → (MessagesOk s → MessagesOk t) ∧ (WaitingCyclesOk s → WaitingCyclesOk t)

/-- URGENT messages stay ahead of NORMAL ones in every inbound queue, but for an opened front message (R120). -/
def Obligations.QueuesOrderedKept : Prop :=
  ∀ s t : State, QueuesOrdered s → step s = .next t → QueuesOrdered t
end

