-- ==== Sys2Proof/Laws/State.lean ====
section
/-! SUPPORT. One lemma per field per update of the state: what each named update leaves and what it writes, true by rfl
where the update is a record update, so that no proof unfolds one. -/

namespace Sys2Proof.Machine

variable (p q : PortId) (l m : LockId) (d e : DescId) (s : State)

/-! ### Records after a replaced record -/

theorem port_setPort (r : PortRecord) : (setPort p r s).port q = if q = p then r else s.port q := by
  by_cases h : q = p
  · subst h; simp [State.port, setPort, Vector.get_eq_getElem]
  · have h' : p.val ≠ q.val := fun he => h (Fin.ext he.symm)
    simp [State.port, setPort, Vector.get_eq_getElem, h, h']

@[simp] theorem port_setPort_self (r : PortRecord) : (setPort p r s).port p = r := by
  simp [port_setPort]

@[simp] theorem port_setPort_ne (r : PortRecord) (h : q ≠ p) : (setPort p r s).port q = s.port q := by
  simp [port_setPort, h]

theorem lock_setLock (r : LockRecord) : (setLock l r s).lock m = if m = l then r else s.lock m := by
  by_cases h : m = l
  · subst h; simp [State.lock, setLock, Vector.get_eq_getElem]
  · have h' : l.val ≠ m.val := fun he => h (Fin.ext he.symm)
    simp [State.lock, setLock, Vector.get_eq_getElem, h, h']

@[simp] theorem lock_setLock_self (r : LockRecord) : (setLock l r s).lock l = r := by
  simp [lock_setLock]

@[simp] theorem lock_setLock_ne (r : LockRecord) (h : m ≠ l) : (setLock l r s).lock m = s.lock m := by
  simp [lock_setLock, h]

theorem desc_setDesc (r : Descriptor) : (setDesc d r s).desc e = if e = d then r else s.desc e := by
  by_cases h : e = d
  · subst h; simp [State.desc, setDesc, Vector.get_eq_getElem]
  · have h' : d.val ≠ e.val := fun he => h (Fin.ext he.symm)
    simp [State.desc, setDesc, Vector.get_eq_getElem, h, h']

/-! ### Two updates of one record, and updates of different records -/

@[simp] theorem setPort_setPort (r r' : PortRecord) : setPort p r (setPort p r' s) = setPort p r s := by
  simp [setPort]

@[simp] theorem setPort_port : setPort p (s.port p) s = s := by
  simp [setPort, State.port, Vector.get_eq_getElem]

theorem setPort_comm (r r' : PortRecord) (h : p ≠ q) :
    setPort p r (setPort q r' s) = setPort q r' (setPort p r s) := by
  have h' : q.val ≠ p.val := fun he => h (Fin.ext he.symm)
  simp only [setPort]
  rw [Vector.set_comm _ _ h']

@[simp] theorem setLock_setLock (r r' : LockRecord) : setLock l r (setLock l r' s) = setLock l r s := by
  simp [setLock]

@[simp] theorem setLock_lock : setLock l (s.lock l) s = s := by
  simp [setLock, State.lock, Vector.get_eq_getElem]

theorem setPort_setLock (r : PortRecord) (k : LockRecord) :
    setPort p r (setLock l k s) = setLock l k (setPort p r s) := rfl

/-! ### Fields that an update of one record leaves -/

@[simp] theorem locks_setPort (r : PortRecord) : (setPort p r s).locks = s.locks := rfl
@[simp] theorem ranks_setPort (r : PortRecord) : (setPort p r s).ranks = s.ranks := rfl
@[simp] theorem descriptors_setPort (r : PortRecord) : (setPort p r s).descriptors = s.descriptors := rfl
@[simp] theorem defaultRights_setPort (r : PortRecord) : (setPort p r s).defaultRights = s.defaultRights := rfl
@[simp] theorem store_setPort (r : PortRecord) : (setPort p r s).store = s.store := rfl
@[simp] theorem rotation_setPort (r : PortRecord) : (setPort p r s).rotation = s.rotation := rfl
@[simp] theorem jobs_setPort (r : PortRecord) : (setPort p r s).jobs = s.jobs := rfl
@[simp] theorem copyWord_setPort (r : PortRecord) : (setPort p r s).copyWord = s.copyWord := rfl
@[simp] theorem tick_setPort (r : PortRecord) : (setPort p r s).tick = s.tick := rfl
@[simp] theorem interval_setPort (r : PortRecord) : (setPort p r s).interval = s.interval := rfl
@[simp] theorem holdLimit_setPort (r : PortRecord) : (setPort p r s).holdLimit = s.holdLimit := rfl
@[simp] theorem failWord_setPort (r : PortRecord) : (setPort p r s).failWord = s.failWord := rfl
@[simp] theorem orphan_setPort (r : PortRecord) : (setPort p r s).orphan = s.orphan := rfl
@[simp] theorem configPort_setPort (r : PortRecord) : (setPort p r s).configPort = s.configPort := rfl
@[simp] theorem nrst_setPort (r : PortRecord) : (setPort p r s).nrst = s.nrst := rfl
@[simp] theorem pending_setPort (r : PortRecord) : (setPort p r s).pending = s.pending := rfl

@[simp] theorem ports_setLock (r : LockRecord) : (setLock l r s).ports = s.ports := rfl
@[simp] theorem ranks_setLock (r : LockRecord) : (setLock l r s).ranks = s.ranks := rfl
@[simp] theorem descriptors_setLock (r : LockRecord) : (setLock l r s).descriptors = s.descriptors := rfl
@[simp] theorem defaultRights_setLock (r : LockRecord) : (setLock l r s).defaultRights = s.defaultRights := rfl
@[simp] theorem store_setLock (r : LockRecord) : (setLock l r s).store = s.store := rfl
@[simp] theorem rotation_setLock (r : LockRecord) : (setLock l r s).rotation = s.rotation := rfl
@[simp] theorem jobs_setLock (r : LockRecord) : (setLock l r s).jobs = s.jobs := rfl
@[simp] theorem copyWord_setLock (r : LockRecord) : (setLock l r s).copyWord = s.copyWord := rfl
@[simp] theorem tick_setLock (r : LockRecord) : (setLock l r s).tick = s.tick := rfl
@[simp] theorem interval_setLock (r : LockRecord) : (setLock l r s).interval = s.interval := rfl
@[simp] theorem holdLimit_setLock (r : LockRecord) : (setLock l r s).holdLimit = s.holdLimit := rfl
@[simp] theorem failWord_setLock (r : LockRecord) : (setLock l r s).failWord = s.failWord := rfl
@[simp] theorem orphan_setLock (r : LockRecord) : (setLock l r s).orphan = s.orphan := rfl
@[simp] theorem configPort_setLock (r : LockRecord) : (setLock l r s).configPort = s.configPort := rfl
@[simp] theorem nrst_setLock (r : LockRecord) : (setLock l r s).nrst = s.nrst := rfl
@[simp] theorem pending_setLock (r : LockRecord) : (setLock l r s).pending = s.pending := rfl

@[simp] theorem ports_setDesc (r : Descriptor) : (setDesc d r s).ports = s.ports := rfl
@[simp] theorem locks_setDesc (r : Descriptor) : (setDesc d r s).locks = s.locks := rfl
@[simp] theorem ranks_setDesc (r : Descriptor) : (setDesc d r s).ranks = s.ranks := rfl
@[simp] theorem defaultRights_setDesc (r : Descriptor) : (setDesc d r s).defaultRights = s.defaultRights := rfl
@[simp] theorem store_setDesc (r : Descriptor) : (setDesc d r s).store = s.store := rfl
@[simp] theorem rotation_setDesc (r : Descriptor) : (setDesc d r s).rotation = s.rotation := rfl
@[simp] theorem jobs_setDesc (r : Descriptor) : (setDesc d r s).jobs = s.jobs := rfl
@[simp] theorem copyWord_setDesc (r : Descriptor) : (setDesc d r s).copyWord = s.copyWord := rfl
@[simp] theorem tick_setDesc (r : Descriptor) : (setDesc d r s).tick = s.tick := rfl
@[simp] theorem interval_setDesc (r : Descriptor) : (setDesc d r s).interval = s.interval := rfl
@[simp] theorem holdLimit_setDesc (r : Descriptor) : (setDesc d r s).holdLimit = s.holdLimit := rfl
@[simp] theorem failWord_setDesc (r : Descriptor) : (setDesc d r s).failWord = s.failWord := rfl
@[simp] theorem orphan_setDesc (r : Descriptor) : (setDesc d r s).orphan = s.orphan := rfl
@[simp] theorem configPort_setDesc (r : Descriptor) : (setDesc d r s).configPort = s.configPort := rfl
@[simp] theorem nrst_setDesc (r : Descriptor) : (setDesc d r s).nrst = s.nrst := rfl
@[simp] theorem pending_setDesc (r : Descriptor) : (setDesc d r s).pending = s.pending := rfl

@[simp] theorem lock_setPort (r : PortRecord) : (setPort p r s).lock l = s.lock l := rfl
@[simp] theorem desc_setPort (r : PortRecord) : (setPort p r s).desc d = s.desc d := rfl
@[simp] theorem port_setLock (r : LockRecord) : (setLock l r s).port p = s.port p := rfl
@[simp] theorem desc_setLock (r : LockRecord) : (setLock l r s).desc d = s.desc d := rfl
@[simp] theorem port_setDesc (r : Descriptor) : (setDesc d r s).port p = s.port p := rfl
@[simp] theorem lock_setDesc (r : Descriptor) : (setDesc d r s).lock l = s.lock l := rfl

/-! ### Records after an update of another field -/

@[simp] theorem port_with_ranks (x : BitVec 8) : ({ s with ranks := x } : State).port p = s.port p := rfl
@[simp] theorem lock_with_ranks (x : BitVec 8) : ({ s with ranks := x } : State).lock l = s.lock l := rfl
@[simp] theorem desc_with_ranks (x : BitVec 8) : ({ s with ranks := x } : State).desc d = s.desc d := rfl
@[simp] theorem port_with_defaultRights (x : BitVec 8) : ({ s with defaultRights := x } : State).port p = s.port p := rfl
@[simp] theorem lock_with_defaultRights (x : BitVec 8) : ({ s with defaultRights := x } : State).lock l = s.lock l := rfl
@[simp] theorem desc_with_defaultRights (x : BitVec 8) : ({ s with defaultRights := x } : State).desc d = s.desc d := rfl
@[simp] theorem port_with_store (x : Store) : ({ s with store := x } : State).port p = s.port p := rfl
@[simp] theorem lock_with_store (x : Store) : ({ s with store := x } : State).lock l = s.lock l := rfl
@[simp] theorem desc_with_store (x : Store) : ({ s with store := x } : State).desc d = s.desc d := rfl
@[simp] theorem port_with_rotation (x : Requester) : ({ s with rotation := x } : State).port p = s.port p := rfl
@[simp] theorem lock_with_rotation (x : Requester) : ({ s with rotation := x } : State).lock l = s.lock l := rfl
@[simp] theorem desc_with_rotation (x : Requester) : ({ s with rotation := x } : State).desc d = s.desc d := rfl
@[simp] theorem port_with_jobs (x : List Job) : ({ s with jobs := x } : State).port p = s.port p := rfl
@[simp] theorem lock_with_jobs (x : List Job) : ({ s with jobs := x } : State).lock l = s.lock l := rfl
@[simp] theorem desc_with_jobs (x : List Job) : ({ s with jobs := x } : State).desc d = s.desc d := rfl
@[simp] theorem port_with_copyWord (x : Option WordRecord) : ({ s with copyWord := x } : State).port p = s.port p := rfl
@[simp] theorem lock_with_copyWord (x : Option WordRecord) : ({ s with copyWord := x } : State).lock l = s.lock l := rfl
@[simp] theorem desc_with_copyWord (x : Option WordRecord) : ({ s with copyWord := x } : State).desc d = s.desc d := rfl
@[simp] theorem port_with_tick (x : Word) : ({ s with tick := x } : State).port p = s.port p := rfl
@[simp] theorem lock_with_tick (x : Word) : ({ s with tick := x } : State).lock l = s.lock l := rfl
@[simp] theorem desc_with_tick (x : Word) : ({ s with tick := x } : State).desc d = s.desc d := rfl
@[simp] theorem port_with_interval (x : Word) : ({ s with interval := x } : State).port p = s.port p := rfl
@[simp] theorem lock_with_interval (x : Word) : ({ s with interval := x } : State).lock l = s.lock l := rfl
@[simp] theorem desc_with_interval (x : Word) : ({ s with interval := x } : State).desc d = s.desc d := rfl
@[simp] theorem port_with_holdLimit (x : Ticks) : ({ s with holdLimit := x } : State).port p = s.port p := rfl
@[simp] theorem lock_with_holdLimit (x : Ticks) : ({ s with holdLimit := x } : State).lock l = s.lock l := rfl
@[simp] theorem desc_with_holdLimit (x : Ticks) : ({ s with holdLimit := x } : State).desc d = s.desc d := rfl
@[simp] theorem port_with_failWord (x : Word) : ({ s with failWord := x } : State).port p = s.port p := rfl
@[simp] theorem lock_with_failWord (x : Word) : ({ s with failWord := x } : State).lock l = s.lock l := rfl
@[simp] theorem desc_with_failWord (x : Word) : ({ s with failWord := x } : State).desc d = s.desc d := rfl
@[simp] theorem port_with_orphan (x : OrphanPolicy) : ({ s with orphan := x } : State).port p = s.port p := rfl
@[simp] theorem lock_with_orphan (x : OrphanPolicy) : ({ s with orphan := x } : State).lock l = s.lock l := rfl
@[simp] theorem desc_with_orphan (x : OrphanPolicy) : ({ s with orphan := x } : State).desc d = s.desc d := rfl
@[simp] theorem port_with_configPort (x : PortId) : ({ s with configPort := x } : State).port p = s.port p := rfl
@[simp] theorem lock_with_configPort (x : PortId) : ({ s with configPort := x } : State).lock l = s.lock l := rfl
@[simp] theorem desc_with_configPort (x : PortId) : ({ s with configPort := x } : State).desc d = s.desc d := rfl
@[simp] theorem port_with_nrst (x : Bool) : ({ s with nrst := x } : State).port p = s.port p := rfl
@[simp] theorem lock_with_nrst (x : Bool) : ({ s with nrst := x } : State).lock l = s.lock l := rfl
@[simp] theorem desc_with_nrst (x : Bool) : ({ s with nrst := x } : State).desc d = s.desc d := rfl
@[simp] theorem port_with_pending (x : List Instr) : ({ s with pending := x } : State).port p = s.port p := rfl
@[simp] theorem lock_with_pending (x : List Instr) : ({ s with pending := x } : State).lock l = s.lock l := rfl
@[simp] theorem desc_with_pending (x : List Instr) : ({ s with pending := x } : State).desc d = s.desc d := rfl

/-! ### A changed group of a port's records -/

theorem modEngine_eq (f : Engine → Engine) :
    modEngine p f s = setPort p { s.port p with engine := f (s.port p).engine } s := rfl
theorem modLockPort_eq (f : LockPortRecord → LockPortRecord) :
    modLockPort p f s = setPort p { s.port p with lock := f (s.port p).lock } s := rfl
theorem modRegion_eq (f : RegionPortRecord → RegionPortRecord) :
    modRegion p f s = setPort p { s.port p with region := f (s.port p).region } s := rfl
theorem modMsg_eq (f : MessagePortRecord → MessagePortRecord) :
    modMsg p f s = setPort p { s.port p with msg := f (s.port p).msg } s := rfl
theorem modCopy_eq (f : CopyPortRecord → CopyPortRecord) :
    modCopy p f s = setPort p { s.port p with copy := f (s.port p).copy } s := rfl
theorem modIntr_eq (f : InterruptRecord → InterruptRecord) :
    modIntr p f s = setPort p { s.port p with intr := f (s.port p).intr } s := rfl
theorem modAttach_eq (f : AttachRecord → AttachRecord) :
    modAttach p f s = setPort p { s.port p with attach := f (s.port p).attach } s := rfl
theorem modBus_eq (f : Bus → Bus) :
    modBus p f s = setPort p { s.port p with bus := f (s.port p).bus } s := rfl
theorem setHeld_eq (h : Option HeldAccess) : setHeld p h s = setPort p { s.port p with held := h } s := rfl
theorem modLock_eq (f : LockRecord → LockRecord) : modLock l f s = setLock l (f (s.lock l)) s := rfl

end Sys2Proof.Machine
end

