-- ==== Sys2Proof/Laws/Store.lean ====
section
/-! SUPPORT. The laws of the common store (R93, R95): a read after a write, and that every memory operation keeps the
canonical form. -/

namespace Sys2Proof.Machine

theorem storeRead_of_below (m : Store) (a : Nat) (h : ∀ c ∈ m, a < c.1) : storeRead m a = unwrittenWord := by
  induction m with
  | nil => rfl
  | cons c m ih =>
    obtain ⟨b, v⟩ := c
    have hb : a < b := h (b, v) (by simp)
    simp only [storeRead, if_neg (Nat.ne_of_lt hb)]
    exact ih fun c hc => h c (List.mem_cons_of_mem _ hc)

/-- A read gives the word written at its address, and otherwise what it gave before. -/
theorem storeRead_storeWrite (m : Store) (hm : m.Pairwise (fun c d => c.1 < d.1)) (a b : Nat) (w : Word) :
    storeRead (storeWrite m a w) b = if b = a then w else storeRead m b := by
  induction m with
  | nil =>
    by_cases hw : w = unwrittenWord <;> by_cases hb : b = a <;> simp [storeWrite, storeRead, hw, hb]
  | cons c m ih =>
    obtain ⟨k, v⟩ := c
    obtain ⟨hk, hm'⟩ := List.pairwise_cons.mp hm
    simp only [storeWrite]
    by_cases h1 : a < k
    · have hbelow : storeRead m a = unwrittenWord :=
        storeRead_of_below m a fun c hc => Nat.lt_trans h1 (hk c hc)
      by_cases hw : w = unwrittenWord
      · by_cases hb : b = a
        · subst hb; simp [h1, hw, storeRead, Nat.ne_of_lt h1, hbelow]
        · simp [h1, hw, hb]
      · by_cases hb : b = a <;> simp [h1, hw, hb, storeRead]
    · by_cases h2 : a = k
      · subst h2
        have hbelow : storeRead m a = unwrittenWord := storeRead_of_below m a hk
        by_cases hw : w = unwrittenWord
        · by_cases hb : b = a
          · subst hb; simp [hw, hbelow]
          · simp [hw, hb, storeRead]
        · by_cases hb : b = a <;> simp [hw, hb, storeRead]
      · simp only [if_neg h1, if_neg h2, storeRead, ih hm']
        by_cases hb : b = k
        · subst hb; simp [Ne.symm h2]
        · simp [hb]

theorem mem_storeWrite (m : Store) (a : Nat) (w : Word) :
    ∀ c ∈ storeWrite m a w, c ∈ m ∨ (c = (a, w) ∧ w ≠ unwrittenWord) := by
  induction m with
  | nil =>
    intro c hc
    by_cases hw : w = unwrittenWord
    · simp [storeWrite, hw] at hc
    · simp [storeWrite, hw] at hc; exact .inr ⟨hc, hw⟩
  | cons x m ih =>
    obtain ⟨k, v⟩ := x
    intro c hc
    simp only [storeWrite] at hc
    split at hc
    · split at hc
      · exact .inl hc
      · next hw => rcases List.mem_cons.mp hc with h | h
                   · exact .inr ⟨h, hw⟩
                   · exact .inl h
    · split at hc
      · split at hc
        · exact .inl (List.mem_cons_of_mem _ hc)
        · next hw => rcases List.mem_cons.mp hc with h | h
                     · exact .inr ⟨h, hw⟩
                     · exact .inl (List.mem_cons_of_mem _ h)
      · rcases List.mem_cons.mp hc with h | h
        · exact .inl (by simp [h])
        · rcases ih c h with h | h
          · exact .inl (List.mem_cons_of_mem _ h)
          · exact .inr h

/-- A write at a backed address keeps the canonical form. -/
theorem storeWrite_wf (m : Store) (a : Nat) (w : Word) (hm : storeWf m) (ha : a < Config.storeWords) :
    storeWf (storeWrite m a w) := by
  obtain ⟨hp, hv⟩ := hm
  refine ⟨?_, fun c hc => ?_⟩
  · clear hv
    induction m with
    | nil => by_cases hw : w = unwrittenWord <;> simp [storeWrite, hw]
    | cons x m ih =>
      obtain ⟨k, v⟩ := x
      obtain ⟨hk, hm'⟩ := List.pairwise_cons.mp hp
      simp only [storeWrite]
      split
      · next h1 =>
        split
        · exact hp
        · exact List.pairwise_cons.mpr ⟨fun c hc => by
            rcases List.mem_cons.mp hc with h | h
            · simpa [h] using h1
            · exact Nat.lt_trans h1 (hk c h), hp⟩
      · next h1 =>
        split
        · next h2 =>
          subst h2
          split
          · exact hm'
          · exact List.pairwise_cons.mpr ⟨hk, hm'⟩
        · next h2 =>
          refine List.pairwise_cons.mpr ⟨fun c hc => ?_, ih hm'⟩
          rcases mem_storeWrite m a w c hc with h | ⟨h, -⟩
          · exact hk c h
          · subst h; show k < a; omega
  · rcases mem_storeWrite m a w c hc with h | ⟨h, hw⟩
    · exact hv c h
    · subst h; exact ⟨ha, hw⟩

/-- The store of the reset state is in the canonical form. -/
theorem storeWf_reset : storeWf State.reset.store := by decide

/-- The store after a word has been put, read at any address. -/
theorem word_putWord (s : State) (hs : storeWf s.store) (a b w : Word) :
    (putWord a w s).word b = if b = a then w else s.word b := by
  have hc : (b.toNat = a.toNat) ↔ b = a := BitVec.toNat_inj
  simp only [State.word, putWord, storeRead_storeWrite _ hs.1, hc]

theorem putWord_wf (s : State) (hs : storeWf s.store) (a w : Word) (ha : a.toNat < Config.storeWords) :
    storeWf (putWord a w s).store := storeWrite_wf _ _ _ hs ha

end Sys2Proof.Machine
end

