-- ==== Sys2Proof/Laws/Ops.lean ====
section
/-! SUPPORT. One lemma per shared operation, saying once what it does: the cycle of a window, completions, causes,
fault offers, grants, handovers, revocations and the drain. -/

namespace Sys2Proof.Machine

variable (p q : PortId) (l : LockId) (s : State)

/-! ### The window cycle -/

/-- A window that takes a cycle at once runs the cycle's body with the cycle begun. -/
theorem hostCycle_ready (h : Ready s p) (c : BusCycle) (body : State → State) :
    hostCycle p c body s = body (modBus p (fun _ => Bus.begin) s) := by
  obtain ⟨h1, h2, h3, h5⟩ := h
  simp [hostCycle, State.busInReset, h1, h2, h3, h5, modBus, modPort]

/-- A detached window that takes a cycle at once answers it as a detached window. -/
theorem hostCycle_detached (h : ReadyDetached s p) (c : BusCycle) (body : State → State) :
    hostCycle p c body s = detachedCycle p c (modBus p (fun _ => Bus.begin) s) := by
  obtain ⟨h1, h2, h3, h5⟩ := h
  simp [hostCycle, State.busInReset, h1, h2, h3, h5, modBus, modPort]

/-- While an earlier cycle of the port is open, a cycle waits for its completion (R208). -/
theorem hostCycle_open (h1 : s.busInReset p = false) (h2 : (s.port p).bus.phase ≠ .idle) (c : BusCycle)
    (body : State → State) :
    hostCycle p c body s = modBus p (fun b => { b with strobe := true, next := some c }) s := by
  simp [hostCycle, h1, h2]

/-- While the bus is in reset no cycle is taken (R203). -/
theorem hostCycle_inReset (h : s.busInReset p = true) (c : BusCycle) (body : State → State) :
    hostCycle p c body s = modBus p (fun b => { b with strobe := true }) s := by
  simp [hostCycle, h]

/-- The record of a port whose cycle has begun. -/
theorem modBus_begin_eq :
    modBus p (fun _ => Bus.begin) s = setPort p { s.port p with bus := Bus.begin } s := rfl

/-- The bus of a cycle that completes, its host still there and no other cycle started. -/
theorem bus_complete_answered (b : Bus) (data : Option Word) (err : Bool) (h1 : b.next = none)
    (h2 : b.strobe = true) : b.complete data err = Bus.answered data err := by
  simp [Bus.complete, Bus.answered, h1, h2]

/-- The bus of a cycle that completes in the event that took it. -/
@[simp] theorem bus_complete_begin (data : Option Word) (err : Bool) :
    Bus.begin.complete data err = Bus.answered data err := rfl

/-- A completion that no strobe sees drives nothing, and nothing waits behind it (R208). -/
theorem bus_complete_unseen (b : Bus) (data : Option Word) (err : Bool) (h : b.strobe = false) :
    b.complete data err = { strobe := false, phase := .idle, next := none, data := none, nerrLow := false } := by
  simp [Bus.complete, h]

/-- A completion behind which a cycle waits drives nothing, and the cycle goes on waiting, to be taken by `settle`
(R208). -/
theorem bus_complete_waiting (b : Bus) (data : Option Word) (err : Bool) (h1 : b.strobe = true)
    (h2 : b.next ≠ none) : b.complete data err = { b with phase := .idle, data := none, nerrLow := false } := by
  cases h : b.next <;> simp_all [Bus.complete]

@[simp] theorem phase_complete (b : Bus) (data : Option Word) (err : Bool) : (b.complete data err).phase = .idle := by
  unfold Bus.complete; split <;> rfl

@[simp] theorem strobe_complete (b : Bus) (data : Option Word) (err : Bool) :
    (b.complete data err).strobe = b.strobe := by
  unfold Bus.complete; split <;> rfl

/-- A completion makes no cycle wait. -/
theorem next_complete (b : Bus) (data : Option Word) (err : Bool) :
    (b.complete data err).next = none ∨ (b.complete data err).next = b.next := by
  unfold Bus.complete; split
  · exact .inr rfl
  · cases b.strobe <;> simp

theorem completeCycle_eq (data : Option Word) (err : Bool) :
    completeCycle p data err s = setPort p { s.port p with bus := (s.port p).bus.complete data err } s := rfl

theorem done_eq (data : Option Word) :
    done p data s = setPort p { s.port p with bus := (s.port p).bus.complete data false } s := rfl

/-! ### Causes and faults -/

theorem setCause_eq (c : Cause) :
    setCause p c s =
      setPort p { s.port p with intr := { (s.port p).intr with causes := (s.port p).intr.causes ||| causeBit c } } s :=
  rfl

/-- A fault offer: the record appended with room, else OVERRUN, and FAULT set (R178). -/
theorem offerFault_eq (f : FaultRecord) :
    offerFault p f s = setPort p { s.port p with intr := (s.port p).intr.offered f } s := by
  by_cases h : (s.port p).intr.faults.length < 4 <;>
    simp [offerFault, modIntr, modPort, setCause, InterruptRecord.offer, InterruptRecord.offered,
      Config.faultQueueMax, h]

/-- A refused register cycle that the window took in this event. -/
theorem refuseCycle_begin (k : FaultKind) (c : BusCycle) (d : Option DescId) (m : Option LockId) :
    refuseCycle p k c d m (modBus p (fun _ => Bus.begin) s) =
      s.refused p k (BitVec.ofNat 16 (2 * c.addr.toNat)) c.op d m := by
  obtain ⟨a, op⟩ := c
  cases op <;>
    simp [refuseCycle, offerFault_eq, completeCycle_eq, modBus_begin_eq, State.refused, CycleOp.refusedData,
      CycleOp.accessType, registerFault]

/-! ### Host accesses -/

/-- A permitted access: the store access, the advance and the completion, with nothing else changed. -/
theorem completeAccess_eq (a : HostAccess) (addr : Word) :
    completeAccess p a addr s =
      setPort p { s.port p with engine := advance (s.port p).engine
                                bus := (s.port p).bus.complete (a.returns (s.word addr)) false }
        { s with store := a.stored (s.port p).engine.opnd addr.toNat s.store } := by
  cases a <;>
    simp [completeAccess, HostAccess.toStore, HostAccess.stored, HostAccess.returns, HostAccess.readData,
      modEngine_eq, completeCycle_eq, putWord, State.word]

/-- A permitted access, as the statements name it. -/
theorem completeAccess_made (a : HostAccess) (addr : Word) : completeAccess p a addr s = s.accessMade p a addr := by
  rw [completeAccess_eq]; rfl

/-- A refused access: the record offered and the cycle completed with nERR, with nothing else changed. -/
theorem refuseAccess_eq (a : HostAccess) (addr : Word) (k : FaultKind) (d : Option DescId) (m : Option LockId) :
    refuseAccess p a addr k d m s =
      setPort p { s.port p with
        intr := (s.port p).intr.offered { kind := k, source := .host, access := a.type, address := addr,
                                          desc := d, lock := m }
        bus := (s.port p).bus.complete (a.returns s.failWord) true } s := by
  cases a <;> simp [refuseAccess, offerFault_eq, completeCycle_eq, HostAccess.returns, HostAccess.failData]

/-- A refused access, as the statements name it. -/
theorem refuseAccess_refused (a : HostAccess) (addr : Word) (k : FaultKind) (d : Option DescId)
    (m : Option LockId) : refuseAccess p a addr k d m s = s.accessRefused p a addr k d m := by
  rw [refuseAccess_eq]; cases a <;> rfl

/-- A rotation grant to a port (R100, R106). -/
theorem rotationGrant_eq (a : HostAccess) (h1 : s.nrst = false) (h2 : s.nextGrant = some (.port p))
    (h3 : (s.port p).engine.request = some a) :
    exec .rotationGrant s = .next (settle (serveAccess p a
      (setPort p { s.port p with engine := { (s.port p).engine with request := none } }
        { s with rotation := .port p }))) := by
  simp [exec, execRotationGrant, eventCommand, whileRunning, h1, grantNext, h2, grantPort, h3, modEngine_eq]
  rfl

/-! ### The lock table -/

theorem grantLock_eq :
    grantLock l p s = setLock l { s.lock l with state := .held p,
                                                lease := Countdown.load (s.lock l).leasePeriod } s := rfl

theorem writeRequest_eq (r : RequestRecord) :
    writeRequest p r s = setPort p { s.port p with lock := { (s.port p).lock with request := r } } s := rfl

/-- A handover with an empty wait list makes the lock FREE (R23). -/
theorem handover_empty (h : (s.lock l).waiters = []) :
    handover l s = setLock l { s.lock l with state := .free, lease := .stopped } s := by
  simp [handover, h, modLock]

/-- A handover to a head waiter: the grant with a fresh lease, the request record and LOCK_OUTCOME, and for a CLAIM
entry the recheck (R23). -/
theorem handover_head (w : Waiter) (ws : List Waiter) (h : (s.lock l).waiters = w :: ws) :
    handover l s =
      (if w.kind = .claim then recheckHeld w.port else id)
        (setCause w.port .lockOutcome (writeRequest w.port (.granted l w.kind)
          (setLock l { s.lock l with state := .held w.port, lease := Countdown.load (s.lock l).leasePeriod,
                                     waiters := ws } s))) := by
  simp only [handover, h, modLock_eq, grantLock_eq, lock_setLock_self, setLock_setLock]
  split <;> simp_all

/-- Without a held access there is no recheck (R85). -/
theorem recheckHeld_absent (h : (s.port p).held = none) : recheckHeld p s = s := by
  simp [recheckHeld, h]

theorem revoke_eq :
    revoke l p s = handover l (setCause p .revoked
      (modLockPort p (fun r => { r with revoked := r.revoked ||| lockBit l }) s)) := rfl

/-! ### The hold list -/

/-- A drain of an empty list changes nothing (R136). -/
theorem drain_empty (h : (s.port q).msg.holdList = []) : drain q s = s := by
  rw [drain, h, drainEntries, ← h]
  exact setPort_port q s

/-- A drain stops at a head that does not fit (R136). -/
theorem drain_stops (e : HoldEntry) (es : List HoldEntry) (h : (s.port q).msg.holdList = e :: es)
    (hf : fits e.length (s.port q).msg.queue = false) : drain q s = s := by
  rw [drain, h, drainEntries, hf, ← h]
  exact setPort_port q s

/-- A drain admits a head that fits and goes on with the entries behind it (R136). -/
theorem drain_admits (e : HoldEntry) (es : List HoldEntry) (h : (s.port q).msg.holdList = e :: es)
    (hf : fits e.length (s.port q).msg.queue = true) :
    drain q s = drainEntries q es (admitHeld q e (modMsg q (fun r => { r with holdList := es }) s)) := by
  simp [drain, h, drainEntries, hf]

/-! ### The cycles that waited -/

/-- With no cycle due, the end of an event takes none. -/
theorem settle_none (h : ∀ q, s.cycleDue q = false) : settle s = s := by
  have h' : allPorts.find? s.cycleDue = none := by simp [h]
  simp [settle, settleWithin, h']

/-- No cycle is due in a state in which cycles wait only behind open ones. -/
theorem settle_ok (h : WaitingCyclesOk s) : settle s = s := by
  refine settle_none s fun q => ?_
  by_cases hn : (s.port q).bus.next.isSome = true
  · have := (h.behindOpen q hn).2
    simp [State.cycleDue, this]
  · simp_all [State.cycleDue]

/-- One round takes the cycle of the lowest-numbered port that has one due. -/
theorem settleWithin_take (n : Nat) (h : s.cycleDue p = true) (hp : ∀ q, q < p → s.cycleDue q = false) :
    settleWithin (n + 1) s = settleWithin n (takeWaiting p s) := by
  have h' : allPorts.find? s.cycleDue = some p := by
    fin_cases p <;> simp_all [allPorts, List.find?]
  simp [settleWithin, h']

/-- A waiting cycle of an attached port is taken by its window. -/
theorem takeWaiting_attached (c : BusCycle) (h : (s.port p).bus.next = some c)
    (ha : (s.port p).attach.attached = true) :
    takeWaiting p s = windowAccess p c (modBus p (fun _ => Bus.begin) s) := by
  simp [takeWaiting, h, takeCycle, modBus_begin_eq, ha]

/-- A waiting cycle of a detached port is taken by its detached window (R192). -/
theorem takeWaiting_detached (c : BusCycle) (h : (s.port p).bus.next = some c)
    (ha : (s.port p).attach.attached = false) :
    takeWaiting p s = detachedCycle p c (modBus p (fun _ => Bus.begin) s) := by
  simp [takeWaiting, h, takeCycle, modBus_begin_eq, ha]

/-! ### Peers -/

/-- PEER_CHANGE reaches every other attached port and nothing else (R199). -/
theorem port_peerChange :
    (peerChange p s).port q =
      if q ≠ p ∧ (s.port q).attach.attached = true then
        { s.port q with intr :=
            { (s.port q).intr with causes := (s.port q).intr.causes ||| causeBit .peerChange } }
      else s.port q := by
  have key : ∀ (qs : List PortId) (t : State), qs.Nodup →
      ((qs.foldl (fun t q => if q ≠ p ∧ (t.port q).attach.attached then setCause q .peerChange t else t) t).port q =
        if q ∈ qs ∧ q ≠ p ∧ (t.port q).attach.attached = true then
          { t.port q with intr :=
              { (t.port q).intr with causes := (t.port q).intr.causes ||| causeBit .peerChange } }
        else t.port q) := by
    intro qs
    induction qs with
    | nil => intro t _; simp
    | cons x xs ih =>
      intro t hn
      obtain ⟨hx, hn'⟩ := List.nodup_cons.mp hn
      rw [List.foldl_cons, ih _ hn']
      by_cases hq : q = x
      · subst hq
        simp only [hx, false_and, if_false, List.mem_cons, true_or, true_and]
        split <;> simp_all [setCause_eq]
      · have hxq : ∀ (t' : State), ((if x ≠ p ∧ (t'.port x).attach.attached = true then
            setCause x .peerChange t' else t').port q) = t'.port q := by
          intro t'; split <;> simp [setCause_eq, hq]
        rw [hxq]; simp [hq]
  have hall : q ∈ allPorts := by
    fin_cases q <;> decide
  rw [peerChange, key allPorts s (by decide)]
  simp [hall]

end Sys2Proof.Machine
end

