-- ==== Sys2Proof/Tests/Slice0.lean ====
section
/-! SUPPORT. Tests on small states: the well-formedness checks, words of the window written out from Tables 10-3 to
10-5, one or two single steps of the commands with results taken from the rules and examples of spec/, and for every
statement with hypotheses a state and operands that meet them. -/

namespace Sys2Proof.Tests

open Sys2Proof.Machine

/-! ### Small states -/

/-- The field test of a command's next state; false when the command stops. -/
def after (i : Instr) (s : State) (f : State → Bool) : Bool :=
  match exec i s with
  | .next t => f t
  | _ => false

/-- The part after device reset. -/
abbrev s0 : State := State.reset

/-- Lock `l` is in state `st`. -/
def lockIs (l : LockId) (st : LockState) : State → State := modLock l fun r => { r with state := st }

/-- The locks of the list are held by port `p`. -/
def holds (ls : List LockId) (p : PortId) (s : State) : State := ls.foldl (fun t l => lockIs l (.held p) t) s

/-- Port `p` waits at the end of the list of lock `l`. -/
def waits (l : LockId) (p : PortId) (k : WaitKind) (rank : BitVec 2) (patience : Countdown) (s : State) : State :=
  s |> modLock l (fun r => { r with waiters := r.waiters ++ [{ port := p, kind := k, patience := patience, rank := rank }] })
    |> writeRequest p (.waiting l k)

/-- The bus of port `p` has a cycle open in phase `ph`, its host waiting. -/
def busOpen (p : PortId) (ph : BusPhase) : State → State :=
  modBus p fun _ => { strobe := true, phase := ph, next := none, data := none, nerrLow := false }

/-- Port `p` has a store request at the arbiter, with PTR at `ptr`. -/
def asks (p : PortId) (a : HostAccess) (ptr : Word) (s : State) : State :=
  s |> modEngine p (fun e => { e with ptr := ptr, request := some a }) |> busOpen p .store

/-- A descriptor of 16 words at 0x1000. -/
def block (rights : BitVec 8) (guard : Bool) (l : BitVec 5) (claims : Bool) : Descriptor :=
  { enabled := true, base := 0x1000, sizeCode := 4, rights := rights, guardPresent := guard, guardLock := l,
    scopeAll := true, policyClaim := claims }

/-- Port `p` waits for lock 0 by a claim whose access is held at 0x1000, lock 0 being held by P0. -/
def claims (p : PortId) (a : HostAccess) (patience : Countdown) (s : State) : State :=
  s |> holds [0] 0 |> waits 0 p .claim 0 patience
    |> setHeld p (some { access := a, address := 0x1000, lock := 0, desc := 0 }) |> busOpen p .claim

/-- Port `p` has a send of `n` words held on the list of `q`. -/
def heldSend (q p : PortId) (n : Nat) (hold : Countdown) (s : State) : State :=
  s |> modMsg p (fun r => { r with staging := List.replicate n 7 })
    |> modMsg q (fun r => { r with holdList := r.holdList ++
        [{ sender := p, cls := .normal, tag := 1, length := n, hold := hold }] })
    |> busOpen p (.send q)

/-- The queue of `q` holds these messages. -/
def queued (q : PortId) (ms : List Message) : State → State := modMsg q fun r => { r with queue := ms }

/-- A message of `n` words. -/
def msg (c : MsgClass) (n : Nat) : Message :=
  { sender := 3, cls := c, origin := .host, tag := 0x21, payload := List.replicate n 5 }

/-- A running job of two words for port 1. -/
def job : Job :=
  { requester := 1, source := 0x1000, destination := 0x2000, count := 2, direction := .ascending, notice := none,
    state := .running, moved := 0, cancelMarked := false }

/-- The copy engine with these jobs and this word record. -/
def copying (js : List Job) (w : Option WordRecord) (s : State) : State := { s with jobs := js, copyWord := w }

/-- Port `p` is detached with a reason, its teardown pending or complete. -/
def detached (p : PortId) (r : DetachReason) (pending : Bool) : State → State :=
  modAttach p fun a => { a with attached := false, reason := r, pending := pending }

/-! ### Well-formedness -/

/-- LOCK_CMD codes 1 to 6 have rows of their own. -/
theorem test_wf_refuses_lockCmd_take : wellFormed (.registerWrite 0 .lockCmd (.write 0x2500)) = false := by decide
/-- LOCK_CMD code 7 names no command and belongs to REGISTER_WRITE. -/
theorem test_wf_takes_lockCmd_seven : wellFormed (.registerWrite 0 .lockCmd (.write 0xE000)) = true := by decide
/-- An assigned offset is no UNASSIGNED_ACCESS; the last one is 0x64. -/
theorem test_wf_refuses_assigned : wellFormed (.unassignedAccess 0 0x32 .read) = false := by decide
theorem test_wf_takes_unassigned : wellFormed (.unassignedAccess 0 0x33 .read) = true := by decide
/-- A detached window answers PORT_ID, PORT_STATE and JOIN in other ways. -/
theorem test_wf_refuses_portId_while_detached : wellFormed (.detachedWindowCycle 0 0 .read) = false := by decide
theorem test_wf_refuses_join_while_detached : wellFormed (.detachedWindowCycle 0 1 (.write 2)) = false := by decide
theorem test_wf_takes_detached_write : wellFormed (.detachedWindowCycle 0 1 (.write 1)) = true := by decide

/-! ### Words of the window, written out from Tables 10-3 to 10-5 -/

/-- LOCK_CMD at 0x20: 001 00101 00000000. -/
theorem test_decode_take : decodeCycle 1 ⟨0x10, .write 0b0010010100000000⟩ = .take 1 5 := by decide
/-- LOCK_CMD: 010 00011 00001010. -/
theorem test_decode_wait : decodeCycle 2 ⟨0x10, .write 0b0100001100001010⟩ = .wait 2 3 10 := by decide
/-- OUT_CMD at 0x40: 01 1 1 00 10 01000000. -/
theorem test_decode_send : decodeCycle 0 ⟨0x20, .write 0b0111001001000000⟩ = .send 0 2 true true 0x40 := by decide
/-- PORT_CMD at 0x64: 01 and port 3. -/
theorem test_decode_detach : decodeCycle 0 ⟨0x32, .write 0b0100000000000011⟩ = .detach 0 3 := by decide
/-- DESC_CMD at 0x3C, code 2. -/
theorem test_decode_commit : decodeCycle 0 ⟨0x1E, .write 2⟩ = .commit 0 := by decide
/-- COPY_CMD at 0x52, code 1. -/
theorem test_decode_start : decodeCycle 3 ⟨0x29, .write 1⟩ = .start 3 := by decide
/-- FADD at 0x1C, read; DATA at 0x18, written. -/
theorem test_decode_engine :
    decodeCycle 1 ⟨0x0E, .read⟩ = .faddRead 1 ∧ decodeCycle 1 ⟨0x0C, .write 9⟩ = .dataWrite 1 9 := by decide
/-- TICK at 0x58, INT_CAUSE at 0x06, PORT_STATE at 0x02 and the unassigned offset 0x7E. -/
theorem test_decode_others :
    decodeCycle 0 ⟨0x2C, .write 500⟩ = .tickWrite 0 500 ∧ decodeCycle 0 ⟨0x03, .write 3⟩ = .intCauseWrite 0 3 ∧
      decodeCycle 0 ⟨0x01, .write 2⟩ = .join 0 ∧ decodeCycle 0 ⟨0x3F, .read⟩ = .unassignedAccess 0 0x3F .read := by
  decide
/-- No row of the table has bits. -/
theorem test_table_word : decodeTableWord 16 0x2500 = none := by decide

/-! ### Register words -/

/-- "Example: rank-ordered insertion": HELD, holder P1, wait count 2; P2 then P0, both EXPLICIT. -/
theorem test_lockView_words :
    let r : LockRecord := { state := .held 1, policy := .rank, leasePeriod := 0, lease := .stopped
                            waiters := [⟨2, .explicit, .stopped, 1⟩, ⟨0, .explicit, .stopped, 1⟩] }
    lockViewWord r = 0x5200 ∧ lockWaitersWord r = 0x008A := by decide
/-- R158 and section 11.2: FAULTED with GUARD is 0x9000; DONE is 0x6000. -/
theorem test_notice_words : noticeHead .faulted .guard = 0x9000 ∧ noticeHead .done .none = 0x6000 := by decide
/-- Table 10-4: NORMAL, sender P1, COPY, length 2, tag 0x40. -/
theorem test_header_word :
    headerWord { sender := 1, cls := .normal, origin := .copy, tag := 0x40, payload := [0x9000, 2] }
      = 0b0101101001000000 := by decide
/-- Table 10-4: GUARD, COPY, WRITE, D7; Table 10-5: L10. -/
theorem test_fault_words :
    let f : FaultRecord := { kind := .guard, source := .copy, access := .write, address := 0x5002, desc := some 7
                             lock := some 10 }
    faultHeadWord f = 0b0011101000010111 ∧ faultLockWord f = 0b101010 := by decide
/-- Table 10-4: DETACHED, LEAVE, pending. -/
theorem test_portState_word :
    portStateWord { AttachRecord.attachedNow with attached := false, reason := .leave, pending := true } = 0x8301 := by
  decide
/-- Table 10-4: outcome 3 PENDING with lock 5, and 0 with NONE. -/
theorem test_lockResult_words :
    lockResultWord ⟨.pending, 5⟩ = 0x3005 ∧ lockResultWord ⟨.none, 5⟩ = 0 := by decide

/-! ### The lock table and the timebase -/

/-- "Example: rank-ordered insertion": P0 (1) stands behind the equal rank of P2. -/
theorem test_rank_insertion :
    (insertWaiter .rank ⟨0, .explicit, .stopped, 1⟩ [⟨3, .explicit, .stopped, 2⟩, ⟨2, .explicit, .stopped, 1⟩]).map
      Waiter.port = [3, 2, 0] := by decide
/-- R16: a FREE lock is granted and the lease starts. -/
theorem test_take_grants :
    after (.take 1 3) (modLock 3 (fun r => { r with leasePeriod := 5 }) s0) (fun t =>
      (t.lock 3).state == .held 1 && (t.lock 3).lease == .running 5 && (t.port 1).lock.result == ⟨.granted, 3⟩)
      = true := by decide
/-- R13: the ninth lock is refused. -/
theorem test_take_holdMax :
    after (.take 0 31) (holds [0, 1, 2, 3, 4, 5, 6, 7] 0 s0) (fun t =>
      (t.lock 31).state == .free && (t.port 0).lock.result.outcome == .refusedHoldLimit) = true := by decide
/-- R17: a WAIT with patience 0 loads no countdown. -/
theorem test_wait_enters :
    after (.wait 2 5 0) (holds [5] 0 s0) (fun t =>
      (t.lock 5).waiters == [⟨2, .explicit, .stopped, 0⟩] && (t.port 2).lock.request == .waiting 5 .explicit)
      = true := by decide
/-- "Example: rank-ordered insertion": RELEASE hands L5 to the head; no revocation. -/
theorem test_release_hands_over :
    after (.release 0 5) (s0 |> holds [5] 0 |> waits 5 1 .explicit 3 .stopped |> waits 5 3 .explicit 2 .stopped)
      (fun t => (t.lock 5).state == .held 1 && (t.lock 5).waiters.map Waiter.port == [3] &&
        (t.port 1).lock.request == .granted 5 .explicit && t.causeSet 1 .lockOutcome &&
        (t.port 0).lock.revoked == 0) = true := by decide
/-- R19, R15: CANCEL shows the lock of the entry, not the lock of the command. -/
theorem test_cancel_shows_entry :
    after (.cancel 2 0) (s0 |> holds [5] 0 |> waits 5 2 .explicit 0 .stopped) (fun t =>
      (t.lock 5).waiters == [] && (t.port 2).lock.result == ⟨.cancelled, 5⟩) = true := by decide
/-- R32: RENEW after the loss of the lock. -/
theorem test_renew_not_holder :
    after (.renew 1 3) (holds [3] 2 s0) (fun t => (t.port 1).lock.result == ⟨.refusedNotHolder, 3⟩) = true := by decide
/-- R21: the holder suffers a revocation. -/
theorem test_force_revokes :
    after (.forceRelease 0 10) (holds [10] 1 s0) (fun t =>
      (t.lock 10).state == .free && (t.port 1).lock.revoked == 0x400 && t.causeSet 1 .revoked &&
        (t.port 0).lock.result == ⟨.forced, 10⟩) = true := by decide
/-- "Example: lease expiry with two waiters", T1. -/
theorem test_tick_decrements :
    after .tickEvent (s0 |> holds [3] 1 |> modLock 3 fun r => { r with lease := .running 5 }) (fun t =>
      (t.lock 3).lease == .running 4) = true := by decide +kernel
/-- R37: the new period begins at the next tick event. -/
theorem test_tick_interval :
    after .tickEvent { s0 with tick := 250 } (fun t => t.interval == 250) = true := by decide +kernel
/-- "Example: lease expiry with two waiters", T5: P2 gets a fresh lease. -/
theorem test_lease_expiry :
    after (.leaseExpiry 3) (s0 |> holds [3] 1 |> waits 3 2 .explicit 0 (.running 6)
        |> modLock 3 fun r => { r with leasePeriod := 5, lease := .due }) (fun t =>
      (t.lock 3).state == .held 2 && (t.lock 3).lease == .running 5 && (t.port 1).lock.revoked == 8) = true := by decide
/-- "Example: lease expiry with two waiters", T5: P0 is TIMED_OUT. -/
theorem test_patience_expiry :
    after (.patienceExpiry 3 0) (s0 |> holds [3] 1 |> waits 3 0 .explicit 0 .due) (fun t =>
      (t.lock 3).waiters == [] && (t.port 0).lock.request == .timedOut 3 .explicit && t.causeSet 0 .lockOutcome)
      = true := by decide
/-- R84, Table 4-4: HOLD_EXPIRED ends the held access with nERR. -/
theorem test_patience_expiry_claim :
    after (.patienceExpiry 0 1) (claims 1 (.write 4) .due s0) (fun t =>
      (t.port 1).held == none && (t.port 1).bus.nerrLow &&
        (t.port 1).intr.faults.map FaultRecord.kind == [.holdExpired]) = true := by decide

/-! ### Configuration and the region table -/

/-- Section 10.5: 0x1000 is refused as TICK, 0x0100 as HOLD_LIMIT. -/
theorem test_whole_word_config :
    after (.tickWrite 0 0x1000) s0 (fun t => t.tick == 1000 && (t.port 0).bus.nerrLow) = true ∧
      after (.holdLimitWrite 0 0x0100) s0 (fun t => t.holdLimit == 32 && (t.port 0).bus.nerrLow) = true := by decide
/-- Section 10.5: 0x0010 is refused as DESC_SEL, 0x0020 as LOCK_SEL. -/
theorem test_whole_word_selection :
    after (.descSelWrite 3 0x0010) s0 (fun t => (t.port 3).bus.nerrLow) = true ∧
      after (.lockSelWrite 3 0x0020) s0 (fun t => (t.port 3).bus.nerrLow) = true := by decide
/-- R185, R186, R71, R54: accepted values. -/
theorem test_config_accepted :
    after (.ranksWrite 0 0x002C) s0 (fun t => t.rank 1 == 3 && t.rank 2 == 2 && t.rank 0 == 0) = true ∧
      after (.orphanWrite 0 0) s0 (fun t => t.orphan == .handover) = true ∧
      after (.failWordWrite 0 0x1234) s0 (fun t => t.failWord == 0x1234) = true ∧
      after (.defaultRightsWrite 0 0) s0 (fun t => t.defaultRights == 0) = true := by decide
/-- R54: the illegal code 3. -/
theorem test_defaultRights_illegal :
    after (.defaultRightsWrite 0 0x00C0) s0 (fun t => t.defaultRights == 0xAA && (t.port 0).bus.nerrLow) = true := by
  decide
/-- R187: a policy change under waiters is BAD_STATE; R43: a new period leaves a running lease. -/
theorem test_lockCfg :
    after (.lockCfgWrite 0 0x8005) (s0 |> holds [0] 1 |> waits 0 2 .explicit 0 .stopped) (fun t =>
        (t.lock 0).policy == .arrival && (t.port 0).intr.faults.map FaultRecord.kind == [.badState]) = true ∧
      after (.lockCfgWrite 0 9) (s0 |> holds [0] 1 |> modLock 0 fun r => { r with lease := .running 4 }) (fun t =>
        (t.lock 0).leasePeriod == 9 && (t.lock 0).lease == .running 4) = true := by decide
/-- "Example: a layered map": the table. -/
def layered : State :=
  let d (base : Word) (size : BitVec 4) (rights : BitVec 8) : Descriptor :=
    { enabled := true, base := base, sizeCode := size, rights := rights, guardPresent := false, guardLock := 0,
      scopeAll := false, policyClaim := false }
  { s0 with defaultRights := 0 }
    |> setDesc 0 (d 0x0000 15 0b00010101)
    |> setDesc 1 { d 0x2000 12 0b00010110 with guardPresent := true, guardLock := 4 }
    |> setDesc 2 { d 0x2800 8 0b00011010 with guardPresent := true, guardLock := 5, scopeAll := true, policyClaim := true }
    |> setDesc 3 (d 0x6000 13 0b00101001)
    |> setDesc 4 { d 0x2800 8 0b00010101 with enabled := false }
/-- "Example: a layered map": a P1 DATA write at each address. -/
theorem test_layered_writes :
    layered.check 1 .write 0x0100 = .rights (some 0) ∧ layered.check 1 .write 0x2010 = .rights (some 1) ∧
      layered.check 1 .write 0x2810 = .guarded 2 5 true ∧ layered.check 1 .write 0x6002 = .permitted ∧
      layered.check 1 .write 0x8000 = .noStore := by decide
/-- "Example: a layered map": P0 writes 0x2010 only with L4 and reads it without; P2's read at 0x2810 needs L5. -/
theorem test_layered_guards :
    layered.check 0 .write 0x2010 = .guarded 1 4 false ∧ (holds [4] 0 layered).check 0 .write 0x2010 = .permitted ∧
      layered.check 0 .read 0x2010 = .permitted ∧ layered.check 2 .read 0x2810 = .guarded 2 5 true := by decide
/-- R56: DESC_ATTR of D2 in the layered map is 0x88E5. -/
theorem test_descAttr :
    after (.descAttrWrite 1 0x88E5) s0 (fun t =>
      { (t.port 1).region.staging with base := 0x2800, rights := 0b00011010 } == layered.desc 2) = true := by decide
/-- R57, R56: LOAD copies the entry, DESC_BASE and DESC_RIGHTS change their own fields. -/
theorem test_load_and_staging :
    after (.load 0) (modRegion 0 (fun r => { r with sel := 2 }) layered)
        (fun t => (t.port 0).region.staging == layered.desc 2) = true ∧
      after (.descBaseWrite 0 7) s0 (fun t => (t.port 0).region.staging.base == 7) = true ∧
      after (.descRightsWrite 0 0xFF) s0 (fun t => (t.port 0).region.staging.rights == 0xFF) = true := by decide
/-- R59, R60: a valid staging copy is committed; a base that is no multiple of the size is BAD_DESC. -/
theorem test_commit :
    after (.commit 0) (modRegion 0 (fun _ => ⟨15, block 0xAA false 0 false⟩) s0)
        (fun t => t.desc 15 == block 0xAA false 0 false) = true ∧
      after (.commit 0) (modRegion 0 (fun _ => ⟨15, { block 0xAA false 0 false with base := 0x1008 }⟩) s0)
        (fun t => t.desc 15 == Descriptor.reset && (t.port 0).intr.faults.map FaultRecord.kind == [.badDesc]) = true := by
  decide
/-- R184: another port's COMMIT is PRIVILEGE. -/
theorem test_commit_privilege :
    after (.commit 1) s0 (fun t => (t.port 1).intr.faults.map FaultRecord.kind == [.privilege]) = true := by decide

/-! ### The store access path -/

/-- R97, R98: PTR and OPND take every word; STEP 0xFF80 is −128 and 0x0080 is refused. -/
theorem test_engine_registers :
    after (.ptrWrite 1 0xFFFF) s0 (fun t => (t.port 1).engine.ptr == 0xFFFF) = true ∧
      after (.opndWrite 1 0x8000) s0 (fun t => (t.port 1).engine.opnd == 0x8000) = true ∧
      after (.stepWrite 1 0xFF80) s0 (fun t => registerValue t 1 .step == 0xFF80) = true ∧
      after (.stepWrite 1 0x0080) s0 (fun t => (t.port 1).engine.step == 1 && (t.port 1).bus.nerrLow) = true := by decide
/-- R100: DATA, XCHG and FADD leave a request, with RDY low. -/
theorem test_requests :
    after (.dataRead 1) s0 (fun t => (t.port 1).engine.request == some .read && t.rdyLow 1) = true ∧
      after (.dataWrite 1 5) s0 (fun t => (t.port 1).engine.request == some (.write 5) && t.rdyLow 1) = true ∧
      after (.xchgRead 1) s0 (fun t => (t.port 1).engine.request == some .xchg && t.rdyLow 1) = true ∧
      after (.faddRead 1) s0 (fun t => (t.port 1).engine.request == some .fadd && t.rdyLow 1) = true := by decide
/-- "Example: a shared counter with FADD", the second grant: 0x0006 and 0xFFFF leave 0x0005, and P2 reads 0x0006. -/
theorem test_fadd_grant :
    after .rotationGrant (putWord 0x3000 6 s0 |> modEngine 2 (fun e => { e with opnd := 0xFFFF, step := 0 })
        |> asks 2 .fadd 0x3000) (fun t =>
      t.word 0x3000 == 5 && (t.port 2).bus.data == some 6 && (t.port 2).engine.ptr == 0x3000) = true := by decide
/-- "Example: a pointer that walks off the store": the third read. -/
theorem test_read_off_the_store :
    after .rotationGrant (asks 3 .read 0x8000 s0) (fun t =>
      (t.port 3).bus.data == some 0xFFFF && (t.port 3).bus.nerrLow && (t.port 3).engine.ptr == 0x8000) = true := by decide
/-- "Example: the rotation with five requesters": after P3 the copy engine is next, and after it P0. -/
theorem test_rotation :
    let s := { (copying [job] (some ⟨0, .source⟩) (s0 |> asks 0 .xchg 0 |> asks 2 .read 0)) with rotation := .port 3 }
    s.nextGrant = some .copyEngine ∧ { s with rotation := .copyEngine }.nextGrant = some (.port 0) := by decide
/-- R77, section 11.1: a claim of a FREE lock is granted and the write is made in one event. -/
theorem test_claim_at_once :
    after .rotationGrant (s0 |> setDesc 0 (block 0xAA true 8 true) |> asks 1 (.write 9) 0x1000) (fun t =>
      (t.lock 8).state == .held 1 && t.word 0x1000 == 9 && (t.port 1).lock.request == .granted 8 .claim &&
        (t.port 1).engine.ptr == 0x1001) = true := by decide
/-- R82, "Example: a read that waits for a claim": the release completes the held read. -/
theorem test_recheck_at_release :
    after (.release 0 0) (claims 1 .read .stopped (putWord 0x1000 6 s0 |> setDesc 0 (block 0xAA true 0 true)
        |> modEngine 1 fun e => { e with ptr := 0x1000 })) (fun t =>
      (t.lock 0).state == .held 1 && (t.port 1).bus == Bus.answered (some 6) false &&
        (t.port 1).engine.ptr == 0x1001) = true := by decide

/-! ### Messages -/

/-- R116: the seventh word is STAGING_OVERFLOW. -/
theorem test_outData :
    after (.outDataWrite 0 4) s0 (fun t => (t.port 0).msg.staging == [4]) = true ∧
      after (.outDataWrite 0 4) (modMsg 0 (fun r => { r with staging := [1, 2, 3, 4, 5, 6] }) s0) (fun t =>
        (t.port 0).msg.staging == [1, 2, 3, 4, 5, 6] && (t.port 0).bus.nerrLow) = true := by decide
/-- R117. -/
theorem test_discard :
    after (.discard 0) (modMsg 0 (fun r => { r with staging := [1] }) s0) (fun t => (t.port 0).msg.staging == []) = true := by
  decide
/-- R121, R123: SENT, with the class cause at the destination. -/
theorem test_send_sent :
    after (.send 0 1 true false 7) (modMsg 0 (fun r => { r with staging := [9] }) (queued 1 [msg .normal 1] s0)) (fun t =>
      (t.port 1).msg.queue.map Message.tag == [7, 0x21] && t.causeSet 1 .msgUrgent && !t.causeSet 1 .msgArrived &&
        (t.port 0).msg.staging == []) = true := by decide
/-- R123, R125: a full queue answers FULL, or holds the send with RDY low. -/
theorem test_send_full_or_held :
    let full := queued 1 [msg .normal 6, msg .normal 6, msg .normal 6, msg .normal 6, msg .normal 3] s0
    after (.send 0 1 false false 7) full (fun t => (t.port 0).msg.outcome == .full && !t.rdyLow 0) = true ∧
      after (.send 0 1 false true 7) full (fun t =>
        (t.port 1).msg.holdList == [⟨0, .normal, 7, 0, .running 32⟩] && t.rdyLow 0) = true := by decide
/-- Section 11.3: an URGENT message goes behind the opened front message. -/
theorem test_urgent_behind_opened :
    insertMessage true (msg .urgent 2) [msg .normal 1, msg .normal 0] =
      [msg .normal 1, msg .urgent 2, msg .normal 0] := by decide
/-- R129, R130: IN_HEAD opens with index 0; IN_DATA past the payload reads 0x0000. -/
theorem test_inbox_reads :
    after (.inHeadRead 0) (queued 0 [msg .normal 1] s0) (fun t =>
        (t.port 0).bus.data == some 0x7121 && (t.port 0).msg.opened) = true ∧
      after (.inDataRead 0) (queued 0 [msg .normal 1] s0) (fun t =>
        (t.port 0).bus.data == some 5 && (t.port 0).msg.readIndex == 1) = true ∧
      after (.inDataRead 0) (queued 0 [msg .normal 0] s0) (fun t =>
        (t.port 0).bus.data == some 0 && (t.port 0).msg.readIndex == 0) = true := by decide
/-- R133, R136: a POP makes room for the held send, whose cycle completes with SENT. -/
theorem test_pop_drains :
    after (.pop 1) (queued 1 [msg .normal 6, msg .normal 6, msg .normal 6, msg .normal 6, msg .normal 3]
        (heldSend 1 0 2 .stopped s0)) (fun t =>
      (t.port 1).msg.holdList == [] && (t.port 1).msg.queue.length == 5 && (t.port 0).msg.outcome == .sent &&
        (t.port 0).msg.staging == [] && !t.rdyLow 0) = true := by decide
/-- R134: a FLUSH empties the queue and admits the held send. -/
theorem test_flush_drains :
    after (.flush 1) (queued 1 [msg .normal 6, msg .normal 6] (heldSend 1 0 2 .stopped s0)) (fun t =>
      (t.port 1).msg.queue.map Message.sender == [0]) = true := by decide
/-- R138: FULL, the staging kept. -/
theorem test_hold_expiry :
    after (.holdExpiry 1 0) (queued 1 [msg .normal 6, msg .normal 6, msg .normal 6, msg .normal 6, msg .normal 3]
        (heldSend 1 0 2 .due s0)) (fun t =>
      (t.port 1).msg.holdList == [] && (t.port 0).msg.outcome == .full && (t.port 0).msg.staging.length == 2 &&
        !t.rdyLow 0 && !(t.port 0).bus.nerrLow) = true := by decide

/-! ### The copy engine -/

/-- R143: COPY_COUNT 4096 is refused; COPY_NOTICE splits into flag, port and tag. -/
theorem test_copy_parameters :
    after (.copyCountWrite 0 4095) s0 (fun t => (t.port 0).copy.count == 4095) = true ∧
      after (.copyCountWrite 0 4096) s0 (fun t => (t.port 0).copy.count == 0 && (t.port 0).bus.nerrLow) = true ∧
      after (.copySrcWrite 0 3) s0 (fun t => (t.port 0).copy.src == 3) = true ∧
      after (.copyDstWrite 0 3) s0 (fun t => (t.port 0).copy.dst == 3) = true ∧
      after (.copyNoticeWrite 0 0b1000001000100001) s0 (fun t =>
        (t.port 0).copy.noticeFlag && (t.port 0).copy.notice == ⟨2, 0x21⟩) = true := by decide
/-- "Example: an overlapping move upward": the job is DESCENDING and its first read is at 0x1004. -/
theorem test_start_overlap :
    after (.start 1) (modCopy 1 (fun c => { c with src := 0x1000, dst := 0x1002, count := 5 }) s0) (fun t =>
      t.jobs.map Job.direction == [.descending] && t.jobs.map (fun j => j.sourceAt 0) == [0x1004] &&
        t.copyWord == some ⟨0, .source⟩ && (t.port 1).copy.submission == .accepted) = true := by decide
/-- R145: a count of 0 is BAD_COUNT, a block past 0x7FFF is BAD_RANGE. -/
theorem test_start_refused :
    after (.start 1) s0 (fun t => t.jobs == [] && (t.port 1).copy.submission == .badCount) = true ∧
      after (.start 1) (modCopy 1 (fun c => { c with src := 0x7FFF, count := 2 }) s0) (fun t =>
        t.jobs == [] && (t.port 1).copy.submission == .badRange) = true := by decide
/-- R150, R151: the read word is held, then stored, and the job of one word ends DONE. -/
theorem test_copy_word :
    after .sourceRead (copying [job] (some ⟨0, .source⟩) (putWord 0x1000 0xBEEF s0)) (fun t =>
        t.copyWord == some ⟨0, .destination 0xBEEF⟩ && t.rotation == .copyEngine) = true ∧
      after .destinationWrite (copying [{ job with count := 1 }] (some ⟨0, .destination 0xBEEF⟩) s0) (fun t =>
        t.word 0x2000 == 0xBEEF && t.jobs == [] && (t.port 1).copy.jobState == .done && (t.port 1).copy.moved == 1 &&
          t.causeSet 1 .copyEnd) = true := by decide
/-- "Example: a job that meets a guard": FAULTED with GUARD, no nERR, the notice posted to P2. -/
theorem test_copy_guard :
    after .destinationWrite (copying [{ job with notice := some ⟨2, 0x21⟩ }] (some ⟨0, .destination 1⟩)
        (setDesc 5 { (block 0xAA true 6 true) with base := 0x2000 } s0)) (fun t =>
      (t.port 1).copy.fault == .guard && (t.port 1).copy.noticeOutcome == .posted && !(t.port 1).bus.nerrLow &&
        (t.port 2).msg.queue.map Message.payload == [[0x9000, 0]] && t.word 0x2000 == 0) = true := by decide
/-- R155, R156: no word in progress ends the job, a word in progress marks it. -/
theorem test_copy_cancel :
    after (.copyCancel 1) (copying [job] (some ⟨1, .source⟩) s0) (fun t =>
        t.jobs == [] && (t.port 1).copy.jobState == .cancelled) = true ∧
      after (.copyCancel 1) (copying [job] (some ⟨1, .destination 5⟩) s0) (fun t =>
        t.jobs.map Job.cancelMarked == [true]) = true := by decide

/-! ### Causes, the fault queue and the window -/

/-- "Example: REVOKED held by the revoked set": REVOKED stays until the set is empty. -/
theorem test_revoked_stays :
    after (.intCauseWrite 1 0x7F) (modPort 1 (fun r => { r with
        lock := { r.lock with revoked := 8 }, intr := { r.intr with causes := 0x7F } }) s0) (fun t =>
      (t.port 1).intr.causes == 2) = true := by decide
/-- R14, R173: the set and the mask. -/
theorem test_revoked_writes :
    after (.revokedLoWrite 1 8) (modLockPort 1 (fun r => { r with revoked := 0x10008 }) s0)
        (fun t => (t.port 1).lock.revoked == 0x10000) = true ∧
      after (.revokedHiWrite 1 1) (modLockPort 1 (fun r => { r with revoked := 0x10008 }) s0)
        (fun t => (t.port 1).lock.revoked == 8) = true ∧
      after (.intMaskWrite 1 0xFF) s0 (fun t => (t.port 1).intr.mask == 0x7F) = true := by decide
/-- R178, R180: the fifth record is dropped with OVERRUN, POP takes the oldest, CLEAR_OVERRUN the flag. -/
theorem test_fault_queue :
    let f (k : FaultKind) : FaultRecord := ⟨k, .host, .write, 0, none, none⟩
    let full := modIntr 1 (fun i => { i with faults := [f .rights, f .guard, f .badDesc, f .badValue] }) s0
    after (.stepWrite 1 0x0080) full (fun t => (t.port 1).intr.faults.length == 4 && (t.port 1).intr.overrun) = true ∧
      after (.faultPop 1) full (fun t =>
        (t.port 1).intr.faults.map FaultRecord.kind == [.guard, .badDesc, .badValue]) = true ∧
      after (.clearOverrun 1) (modIntr 1 (fun i => { i with overrun := true }) s0)
        (fun t => !(t.port 1).intr.overrun) = true := by decide
/-- R209, R210: a read of TICK, a write of a read register, and an unassigned offset. -/
theorem test_register_cycles :
    after (.registerWrite 2 .tick .read) s0 (fun t => (t.port 2).bus.data == some 0x03E8) = true ∧
      after (.registerWrite 2 .copyMoved (.write 1)) s0 (fun t =>
        (t.port 2).intr.faults == [⟨.badValue, .host, .write, 0x56, none, none⟩]) = true ∧
      after (.unassignedAccess 2 0x3F .read) s0 (fun t =>
        (t.port 2).bus.data == some 0 && (t.port 2).intr.faults == [⟨.unassigned, .host, .read, 0x7E, none, none⟩])
        = true := by decide
/-- R192: a detached window ignores a write and answers a read of PEERS with 0x0000. -/
theorem test_detached_window :
    after (.detachedWindowCycle 1 0x02 .read) (detached 1 .leave false s0) (fun t =>
        (t.port 1).bus == Bus.answered (some 0) false) = true ∧
      after (.detachedWindowCycle 1 0x09 (.write 5)) (detached 1 .leave false s0) (fun t =>
        (t.port 1).engine.ptr == 0 && (t.port 1).intr.faults == []) = true := by decide
/-- R205, R206: the end of a cycle floats the data and raises nERR. -/
theorem test_cycle_end :
    after (.cycleEnd 1) (modBus 1 (fun _ => Bus.answered (some 7) true) s0) (fun t => (t.port 1).bus == Bus.reset) = true := by
  decide

/-! ### Detach, reattach and reset -/

/-- R188, R112: a detach by command ends a waiting read with 0x0000 and no nERR. -/
theorem test_detach :
    after (.detach 0 1) (asks 1 .read 0x1000 s0) (fun t =>
      (t.port 1).bus == Bus.answered (some 0) false && (t.port 1).attach.reason == .command &&
        (t.port 1).attach.pending && (t.port 1).engine.request == none) = true := by decide
/-- R190, R197: LEAVE detaches; JOIN reattaches once the teardown is complete, with PEER_CHANGE at the others. -/
theorem test_leave_and_join :
    after (.leave 1) s0 (fun t => (t.port 1).attach.reason == .leave && !(t.port 1).attach.attached) = true ∧
      after (.join 1) (detached 1 .leave false s0) (fun t =>
        (t.port 1).attach.attached && t.causeSet 0 .peerChange && !t.causeSet 1 .peerChange) = true ∧
      after (.join 1) (detached 1 .leave true s0) (fun t => !(t.port 1).attach.attached) = true := by decide
/-- R190, R197: the pin detaches, and its release reattaches after the teardown. -/
theorem test_pins :
    after (.portResetAssert 1) s0 (fun t => (t.port 1).attach.reason == .pin && (t.port 1).prst) = true ∧
      after (.portResetRelease 1) (modPort 1 (fun r => { r with prst := true }) (detached 1 .pin false s0))
        (fun t => (t.port 1).attach.attached) = true := by decide
/-- R193, R194: the withdrawal fixes the set; a release event under ORPHAN keeps the waiters out of the lock. -/
theorem test_withdrawal_and_release :
    after (.withdrawal 1) (holds [3, 9] 1 (detached 1 .leave true s0))
        (fun t => (t.port 1).attach.toRelease == [3, 9]) = true ∧
      after (.releaseEvent 1 3) (holds [3] 1 (detached 1 .leave true s0)
          |> modAttach 1 fun a => { a with withdrawn := true, toRelease := [3, 9] }) (fun t =>
        (t.lock 3).state == .orphaned && (t.port 1).attach.toRelease == [9] && (t.port 1).lock.revoked == 0) = true := by
  decide
/-- R140: a send held on the list of a detached port ends DETACHED with its staging kept. -/
theorem test_message_teardown :
    after (.messageUnitTeardown 1) (detached 1 .leave true (heldSend 1 0 2 .stopped s0)) (fun t =>
      (t.port 0).msg.outcome == .detached && (t.port 0).msg.staging.length == 2 && !t.rdyLow 0 &&
        (t.port 1).msg.holdList == []) = true := by decide
/-- R163: the job leaves without an ending. -/
theorem test_copy_teardown :
    after (.copyEngineTeardown 1) (detached 1 .leave true (copying [job] (some ⟨0, .source⟩) s0)) (fun t =>
      t.jobs == [] && t.copyWord == none && !t.causeSet 1 .copyEnd) = true := by decide
/-- R196: the completion clears the flag; before the last teardown there is none. -/
theorem test_completion :
    let down := modAttach 1 (fun a => { a with withdrawn := true, messagesDown := true, copyDown := true })
      (detached 1 .leave true s0)
    after (.completionEvent 1) down (fun t => !(t.port 1).attach.pending && t.causeSet 2 .peerChange) = true ∧
      after (.completionEvent 1) (modAttach 1 (fun a => { a with copyDown := false }) down)
        (fun t => (t.port 1).attach.pending) = true := by decide
/-- R202, R93: device reset keeps the store and gives the lock table its reset values. -/
theorem test_device_reset :
    after .deviceReset (putWord 5 6 (holds [3] 1 s0)) (fun t =>
      t.nrst && t.word 5 == 6 && (t.lock 3).state == .free) = true := by decide +kernel
/-- R183: CFGP1 is the higher place. -/
theorem test_straps :
    after (.resetRelease true false) { s0 with nrst := true } (fun t => t.configPort == 2 && !t.nrst) = true := by
  decide +kernel
/-- A cycle of port `p` waits behind the open one. -/
def behind (p : PortId) (c : BusCycle) : State → State := modBus p fun b => { b with next := some c }

/-- "Example: a read that waits for a claim", R208: P1's LOCK_CMD write waits behind its claim of L0 and is taken at the
release by P0, after the read completed with its data unseen. -/
theorem test_waiting_cycle_taken :
    after (.release 0 0) (claims 1 .read .stopped s0 |> behind 1 ⟨0x10, .write 0x2300⟩) (fun t =>
      (t.lock 0).state == .held 1 && (t.port 1).held == none && (t.lock 3).state == .held 1 &&
        (t.port 1).lock.result == ⟨.granted, 3⟩ && (t.port 1).bus == Bus.answered none false) = true := by decide
/-- R208: a DATA read that waits behind a store access makes its request at the grant that ends it. -/
theorem test_waiting_read_asks :
    after .rotationGrant (asks 1 (.write 4) 0x1000 s0 |> behind 1 ⟨0x0C, .read⟩) (fun t =>
      t.word 0x1000 == 4 && (t.port 1).engine.request == some .read && (t.port 1).bus.phase == .store &&
        t.nextGrant == some (.port 1)) = true := by decide

/-! ### States and operands that meet the hypotheses of the statements, clause by clause -/

theorem ready_of {s : State} {p : PortId} (h : (!s.nrst && !(s.port p).prst && decide ((s.port p).bus.phase = .idle) &&
    (s.port p).attach.attached) = true) : Ready s p := by
  simp only [Bool.and_eq_true, Bool.not_eq_true', decide_eq_true_eq] at h
  exact ⟨h.1.1.1, h.1.1.2, h.1.2, h.2⟩

theorem readyDetached_of {s : State} {p : PortId} (h : (!s.nrst && !(s.port p).prst &&
    decide ((s.port p).bus.phase = .idle) && !(s.port p).attach.attached) = true) : ReadyDetached s p := by
  simp only [Bool.and_eq_true, Bool.not_eq_true', decide_eq_true_eq] at h
  exact ⟨h.1.1.1, h.1.1.2, h.1.2, h.2⟩

theorem tearingDown_of {s : State} {p : PortId}
    (h : (!s.nrst && !(s.port p).attach.attached && (s.port p).attach.pending) = true) : TearingDown s p := by
  simp only [Bool.and_eq_true, Bool.not_eq_true'] at h
  exact ⟨h.1.1, h.1.2, h.2⟩

/-- P1 waits for L31, held by P3. -/
def waiting : State := s0 |> holds [31] 3 |> waits 31 1 .explicit 0 .stopped

theorem waiting_lockTableOk : LockTableOk waiting where
  freeEmpty := by decide
  holderApart := by decide
  entryOnce := by decide
  entryRecorded := by decide
  recordEntered := fun p l k h => by
    have h1 : ∀ p, (waiting.port p).lock.request.isWaiting = true → p = 1 := by decide
    obtain rfl := h1 p (by rw [h]; rfl)
    have h2 : (waiting.port 1).lock.request = .waiting 31 .explicit := by decide
    obtain ⟨rfl, rfl⟩ := RequestRecord.waiting.inj (h2.symm.trans h)
    decide
  rankOrder := by decide
  heldClaim := fun p h hh => by
    have h1 : ∀ p, (waiting.port p).held = none := by decide
    exact absurd ((h1 p).symm.trans hh) (by simp)
  claimHeld := fun p l hp h => by
    have h1 : ∀ p, (waiting.port p).lock.request = .idle ∨ (waiting.port p).lock.request = .waiting 31 .explicit := by
      decide
    rcases h1 p with h1 | h1 <;> exact absurd (h1.symm.trans h) (by simp)
  heldPhase := by decide
  requestPhase := by decide
  detachedQuiet := by decide
  withdrawnDone := by decide
  underReset := by decide

/-- P1's claim of L0 is held, under RANK. -/
def claimHeldState : State := modLock 0 (fun r => { r with policy := .rank }) (claims 1 .read .stopped s0)

theorem claimHeld_lockTableOk : LockTableOk claimHeldState where
  freeEmpty := by decide
  holderApart := by decide
  entryOnce := by decide
  entryRecorded := by decide
  recordEntered := fun p l k h => by
    have h1 : ∀ p, (claimHeldState.port p).lock.request.isWaiting = true → p = 1 := by decide
    obtain rfl := h1 p (by rw [h]; rfl)
    have h2 : (claimHeldState.port 1).lock.request = .waiting 0 .claim := by decide
    obtain ⟨rfl, rfl⟩ := RequestRecord.waiting.inj (h2.symm.trans h)
    decide
  rankOrder := by decide
  heldClaim := fun p h hh => by
    have h1 : ∀ p, (claimHeldState.port p).held.isSome = true → p = 1 := by decide
    obtain rfl := h1 p (by rw [hh]; rfl)
    have h2 : (claimHeldState.port 1).held = some ⟨.read, 0x1000, 0, 0⟩ := by decide
    obtain rfl := Option.some.inj (h2.symm.trans hh)
    decide
  claimHeld := fun p l hp h => by
    have h1 : ∀ p, (claimHeldState.port p).lock.request.isWaiting = true → p = 1 := by decide
    obtain rfl := h1 p (by rw [h]; rfl)
    have h2 : (claimHeldState.port 1).lock.request = .waiting 0 .claim := by decide
    obtain ⟨rfl, -⟩ := RequestRecord.waiting.inj (h2.symm.trans h)
    exact ⟨⟨.read, 0x1000, 0, 0⟩, by decide, rfl⟩
  heldPhase := by decide
  requestPhase := by decide
  detachedQuiet := by decide
  withdrawnDone := by decide
  underReset := by decide

/-- P0 has an expired send of two words held on the list of P1, whose queue has no room for it. -/
def sending : State :=
  queued 1 [msg .normal 6, msg .normal 6, msg .normal 6, msg .normal 6, msg .normal 3] (heldSend 1 0 2 .due s0)

theorem sending_messagesOk : MessagesOk sending where
  words := by decide
  staged := by decide
  entrySender := by decide
  entryLength := by decide
  entryHeld := by decide
  entryOnce := by decide
  sendEntered := fun p q h => by
    have h1 : ∀ p q, (sending.port p).bus.phase = .send q → q = 1 ∧ p = 0 := by decide
    obtain ⟨rfl, rfl⟩ := h1 p q h
    decide
  entryOneList := by decide
  heldPhase := by decide
  requestPhase := by decide
  detachedEnded := by decide
  underReset := by decide

/-- P1 is being torn down with a send of its own held on the list of P2. -/
def leaving : State := s0 |> heldSend 2 1 2 .stopped |> busOpen 1 .idle |> detached 1 .leave true

theorem leaving_messagesOk : MessagesOk leaving := by constructor <;> decide

/-- P1's job runs and P2's waits behind it. -/
def twoJobs : State := copying [job, { job with requester := 2, state := .queued }] (some ⟨1, .source⟩) s0

theorem twoJobs_jobsOk : JobsOk twoJobs where
  onePerPort := by decide
  headRuns := fun j js h => by
    obtain ⟨rfl, rfl⟩ := List.cons.inj (show [job, { job with requester := 2, state := .queued }] = j :: js from h)
    decide
  inStore := by decide
  wordPresent := by decide
  wordInJob := fun j js w h hw => by
    obtain ⟨rfl, rfl⟩ := List.cons.inj (show [job, { job with requester := 2, state := .queued }] = j :: js from h)
    obtain rfl := Option.some.inj (show some (⟨1, .source⟩ : WordRecord) = some w from hw)
    decide

theorem witness_StepRunsFrontCommand :
    ({ s0 with pending := [.tickEvent, .flush 3] } : State).pending = .tickEvent :: [.flush 3] ∧ s0.pending = [] := by
  decide

theorem witness_ResetRegisterValues : (s0.port 3).prst = false := by decide

theorem witness_DeviceResetAndRelease : ({ s0 with nrst := true } : State).nrst = true ∧ s0.nrst = false := by decide

theorem witness_TakeAnswers :
    (Ready (holds [31] 0 s0) 0 ∧ ((holds [31] 0 s0).lock 31).state = .held 0) ∧
      (Ready (holds [31] 3 s0) 0 ∧ ((holds [31] 3 s0).lock 31).state = .held 3) ∧
      (Ready (lockIs 31 .orphaned s0) 0 ∧ ((lockIs 31 .orphaned s0).lock 31).state = .orphaned) ∧
      (Ready (holds [0, 1, 2, 3, 4, 5, 6, 7] 0 s0) 0 ∧ ((holds [0, 1, 2, 3, 4, 5, 6, 7] 0 s0).lock 31).state = .free ∧
        (holds [0, 1, 2, 3, 4, 5, 6, 7] 0 s0).holdCount 0 = 8) ∧
      (Ready (holds [0, 1, 2, 3, 4, 5, 6] 0 s0) 0 ∧ ((holds [0, 1, 2, 3, 4, 5, 6] 0 s0).lock 31).state = .free ∧
        (holds [0, 1, 2, 3, 4, 5, 6] 0 s0).holdCount 0 = 7) ∧
      (Ready waiting 1 ∧ LockTableOk waiting ∧ (waiting.port 1).lock.request = .waiting 31 .explicit) :=
  ⟨⟨ready_of (by decide), by decide⟩, ⟨ready_of (by decide), by decide⟩, ⟨ready_of (by decide), by decide⟩,
    ⟨ready_of (by decide), by decide⟩, ⟨ready_of (by decide), by decide⟩,
    ⟨ready_of (by decide), waiting_lockTableOk, by decide⟩⟩

theorem witness_WaitAnswers :
    (Ready waiting 1 ∧ (waiting.port 1).lock.request = .waiting 31 .explicit) ∧
      (Ready (holds [31] 0 s0) 0 ∧ ((holds [31] 0 s0).port 0).lock.request.isWaiting = false ∧
        ((holds [31] 0 s0).lock 31).state = .held 0) ∧
      (Ready (holds [0, 1, 2, 3, 4, 5, 6, 7] 0 s0) 0 ∧
        ((holds [0, 1, 2, 3, 4, 5, 6, 7] 0 s0).port 0).lock.request.isWaiting = false ∧
        ((holds [0, 1, 2, 3, 4, 5, 6, 7] 0 s0).lock 31).state ≠ .held 0 ∧
        ((holds [0, 1, 2, 3, 4, 5, 6, 7] 0 s0).heldLocks 0).length = 8) ∧
      (Ready (holds [0, 1, 2, 3, 4, 5, 6] 0 s0) 0 ∧
        ((holds [0, 1, 2, 3, 4, 5, 6] 0 s0).port 0).lock.request.isWaiting = false ∧
        ((holds [0, 1, 2, 3, 4, 5, 6] 0 s0).heldLocks 0).length = 7 ∧
        ((holds [0, 1, 2, 3, 4, 5, 6] 0 s0).lock 31).state = .free) ∧
      (Ready (lockIs 31 .orphaned s0) 0 ∧ ((lockIs 31 .orphaned s0).port 0).lock.request.isWaiting = false ∧
        ((lockIs 31 .orphaned s0).heldLocks 0).length < 8 ∧ ((lockIs 31 .orphaned s0).lock 31).state ≠ .free) :=
  ⟨⟨ready_of (by decide), by decide⟩, ⟨ready_of (by decide), by decide⟩, ⟨ready_of (by decide), by decide⟩,
    ⟨ready_of (by decide), by decide⟩, ⟨ready_of (by decide), by decide⟩⟩

theorem witness_ReleaseAnswers :
    (Ready (holds [31] 0 s0) 0 ∧ ((holds [31] 0 s0).lock 31).state = .held 0) ∧
      (Ready s0 0 ∧ (s0.lock 31).state ≠ .held 0) :=
  ⟨⟨ready_of (by decide), by decide⟩, ⟨ready_of (by decide), by decide⟩⟩

theorem witness_CancelAnswers :
    (Ready waiting 1 ∧ (waiting.port 1).lock.request = .waiting 31 .explicit) ∧
      (Ready s0 0 ∧ (s0.port 0).lock.request.isWaiting = false) :=
  ⟨⟨ready_of (by decide), by decide⟩, ⟨ready_of (by decide), by decide⟩⟩

/-- P0 holds L31, whose lease period is 255. -/
def leased : State := modLock 31 (fun r => { r with leasePeriod := 255, lease := .running 1 }) (holds [31] 0 s0)

theorem witness_RenewAnswers :
    (Ready leased 0 ∧ (leased.lock 31).state = .held 0 ∧ (leased.lock 31).leasePeriod ≠ 0) ∧
      (Ready (holds [31] 0 s0) 0 ∧ ((holds [31] 0 s0).lock 31).state = .held 0 ∧
        ((holds [31] 0 s0).lock 31).leasePeriod = 0) ∧
      (Ready leased 1 ∧ (leased.lock 31).state ≠ .held 1) :=
  ⟨⟨ready_of (by decide), by decide⟩, ⟨ready_of (by decide), by decide⟩, ⟨ready_of (by decide), by decide⟩⟩

theorem witness_ForceReleaseAnswers :
    (Ready s0 1 ∧ (1 : PortId) ≠ s0.configPort) ∧ (Ready s0 0 ∧ (0 : PortId) = s0.configPort ∧ (s0.lock 31).state = .free) ∧
      (Ready (holds [31] 3 s0) 0 ∧ (0 : PortId) = (holds [31] 3 s0).configPort ∧
        ((holds [31] 3 s0).lock 31).state = .held 3) ∧
      (Ready (holds [31] 0 s0) 0 ∧ ((holds [31] 0 s0).lock 31).state = .held 0) ∧
      (Ready (lockIs 31 .orphaned s0) 0 ∧ ((lockIs 31 .orphaned s0).lock 31).state = .orphaned) :=
  ⟨⟨ready_of (by decide), by decide⟩, ⟨ready_of (by decide), by decide⟩, ⟨ready_of (by decide), by decide⟩,
    ⟨ready_of (by decide), by decide⟩, ⟨ready_of (by decide), by decide⟩⟩

theorem witness_WaiterInsertion :
    ([⟨1, .explicit, .stopped, 3⟩, ⟨2, .claim, .due, 1⟩] : List Waiter).Pairwise
      fun a b => b.rank.toNat ≤ a.rank.toNat := by decide

/-- P1's claim of L0 is held; the address lies in D0 with these rights and this guard lock. -/
def claiming (rights : BitVec 8) (guard : BitVec 5) : State :=
  claims 1 .read .due (setDesc 0 (block rights true guard true) s0)

theorem witness_HandoverOutcome :
    ((s0.lock 31).waiters = []) ∧
      ((waiting.lock 31).waiters = [⟨1, .explicit, .stopped, 0⟩]) ∧
      (((setHeld 1 none (claiming 0xAA 0)).lock 0).waiters = [⟨1, .claim, .due, 0⟩] ∧
        ((setHeld 1 none (claiming 0xAA 0)).port 1).held = none) ∧
      ∀ x ∈ [(claiming 0xAA 0, Verdict.permitted), (claiming 0 0, .rights (some 0)), (claiming 0xAA 5, .guarded 0 5 true)],
        (x.1.lock 0).waiters = [⟨1, .claim, .due, 0⟩] ∧
        (x.1.port 1).held = some { access := .read, address := 0x1000, lock := 0, desc := 0 } ∧
        (setHeld 1 none (x.1.handedTo 0 ⟨1, .claim, .due, 0⟩ [])).check 1 .read 0x1000 = x.2 := by
  refine ⟨by decide, by decide, by decide, fun x hx => ?_⟩
  simp only [List.mem_cons, List.not_mem_nil, or_false] at hx
  obtain rfl | rfl | rfl := hx <;> exact ⟨by decide, by decide, by decide⟩

/-- P0 holds L31, its lease expired. -/
def expired : State := modLock 31 (fun r => { r with lease := .due }) leased

theorem witness_LeaseExpiryRevokes :
    (expired.nrst = false ∧ (expired.lock 31).state = .held 0 ∧ (expired.lock 31).lease = .due) ∧
      (leased.lock 31).lease ≠ .due := by decide

theorem witness_PatienceExpiryOutcome :
    (((s0 |> holds [31] 3 |> waits 31 2 .claim 0 .stopped |> waits 31 1 .explicit 0 .due).lock 31).waiters =
        [⟨2, .claim, .stopped, 0⟩] ++ ⟨1, .explicit, .due, 0⟩ :: []) ∧
      ((claiming 0xAA 0).nrst = false ∧ ((claiming 0xAA 0).lock 0).waiters = [] ++ ⟨1, .claim, .due, 0⟩ :: [] ∧
        ((claiming 0xAA 0).port 1).held = some { access := .read, address := 0x1000, lock := 0, desc := 0 }) ∧
      (∀ w ∈ (waiting.lock 31).waiters, w.port = 1 → w.patience ≠ .due) :=
  ⟨by decide, ⟨by decide, by decide, by decide⟩, by decide⟩

theorem witness_TickEventCounts :
    (s0.nrst = false) ∧ ({ s0 with nrst := true } : State).nrst = true ∧
      ((modLock 31 (fun r => { r with lease := .running 255 }) s0).lock 31).lease = .running 255 ∧
      (255 : Ticks) ≠ 0 ∧ 255 ≤ (255 : Ticks).toNat ∧ 1 < (2 : Ticks).toNat := by decide

theorem witness_ConfigurationWrites :
    Ready s0 0 ∧ (0 : PortId) = s0.configPort ∧ (∀ q, fieldOf ((0xAA : Word).setWidth 8) q ≠ 3) ∧
      fieldOf ((0xC0 : Word).setWidth 8) 3 = 3 ∧
      Ready (modLockPort 0 (fun r => { r with sel := 31 }) waiting) 0 ∧ LockPolicy.rank ≠ (waiting.lock 31).policy ∧
      (waiting.lock 31).waiters ≠ [] :=
  ⟨ready_of (by decide), by decide, by decide, by decide, ready_of (by decide), by decide⟩

theorem witness_OtherPortsRefusedPrivilege : Ready s0 3 ∧ (3 : PortId) ≠ s0.configPort :=
  ⟨ready_of (by decide), by decide⟩

theorem witness_SelectionAndStagingWrites :
    Ready s0 3 ∧ (31 : Word).toNat = (31 : LockId).val ∧ 31 < (32 : Word).toNat ∧ (15 : Word).toNat = (15 : DescId).val ∧
      15 < (16 : Word).toNat := ⟨ready_of (by decide), by decide⟩

theorem witness_CommitOutcome :
    Ready (modRegion 0 (fun _ => ⟨15, block 0xAA true 31 true⟩) s0) 0 ∧
      Ready (modRegion 0 (fun _ => ⟨15, block 0xC0 true 31 true⟩) s0) 0 ∧
      (block 0xAA true 31 true).valid = true ∧ (block 0xC0 true 31 true).valid = false :=
  ⟨ready_of (by decide), ready_of (by decide), by decide⟩

theorem witness_AccessCheckOrder :
    0x8000 ≤ (0x8000 : Word).toNat ∧ (0x7FFF : Word).toNat < 0x8000 ∧
      (layered.governing 0x0100 = some 0 ∧ fieldOf (layered.desc 0).rights 1 = 1) ∧
      (s0.governing 0x7FFF = none ∧ fieldOf s0.defaultRights 1 = 2) ∧
      (layered.governing 0x6002 = some 3 ∧ (layered.desc 3).guardPresent = false ∧ fieldOf (layered.desc 3).rights 1 = 2) ∧
      (layered.governing 0x2810 = some 2 ∧ (layered.desc 2).guardPresent = true ∧ (layered.desc 2).scopeAll = true ∧
        fieldOf (layered.desc 2).rights 1 = 2 ∧ ((holds [5] 1 layered).lock 5).state = .held 1) := by decide

theorem witness_EngineWritesAndRequests :
    Ready s0 3 ∧ (0x7F : Word).toNat ≤ 0x7F ∧ 0xFF80 ≤ (0xFF80 : Word).toNat ∧ 0x7F < (0xFF7F : Word).toNat ∧
      (0xFF7F : Word).toNat < 0xFF80 := ⟨ready_of (by decide), by decide⟩

theorem witness_RotationGrantPermitted :
    (asks 3 (.write 5) 0x7FFF s0).nrst = false ∧ (asks 3 (.write 5) 0x7FFF s0).nextGrant = some (.port 3) ∧
      ((asks 3 (.write 5) 0x7FFF s0).port 3).engine.request = some (.write 5) ∧
      (asks 3 (.write 5) 0x7FFF s0).check 3 .write 0x7FFF = .permitted ∧ StoreCanonical (asks 3 (.write 5) 0x7FFF s0) :=
  ⟨by decide, by decide, by decide, by decide, by unfold StoreCanonical; decide⟩

theorem witness_RotationGrantRefused :
    (∀ x ∈ [(asks 3 .read 0x8000 s0, Verdict.noStore),
        (asks 3 .read 0x1000 (setDesc 0 (block 0 false 0 false) s0), .rights (some 0)),
        (asks 3 .read 0x100F (setDesc 0 (block 0xAA true 31 false) s0), .guarded 0 31 false)],
      x.1.nrst = false ∧ x.1.nextGrant = some (.port 3) ∧ (x.1.port 3).engine.request = some .read ∧
        x.1.check 3 .read (x.1.port 3).engine.ptr = x.2) ∧
      s0.nextGrant = none ∧ twoJobs.nextGrant = some .copyEngine := by
  refine ⟨fun x hx => ?_, by decide, by decide⟩
  simp only [List.mem_cons, List.not_mem_nil, or_false] at hx
  obtain rfl | rfl | rfl := hx <;> exact ⟨by decide, by decide, by decide, by decide⟩

/-- A claim of P1 at its grant: D0 is guarded by L31 under CLAIM, and `f` prepares the lock table. -/
def claimAt (f : State → State) : State := asks 1 .read 0x1000 (f (setDesc 0 (block 0xAA true 31 true) s0))

theorem witness_ClaimOutcomes :
    (∀ x ∈ [claimAt id, claimAt (holds [31] 3), claimAt (holds [0, 1, 2, 3, 4, 5, 6, 7] 1),
        claimAt fun s => s |> holds [0] 3 |> waits 0 1 .explicit 0 .stopped],
      x.nrst = false ∧ x.nextGrant = some (.port 1) ∧ (x.port 1).engine.request = some .read ∧
        x.check 1 .read (x.port 1).engine.ptr = .guarded 0 31 true) ∧
      ((claimAt id).lock 31).state = .free ∧ ((claimAt (holds [31] 3)).lock 31).state ≠ .free ∧
      ((claimAt (holds [0, 1, 2, 3, 4, 5, 6, 7] 1)).heldLocks 1).length = 8 ∧
      ((claimAt fun s => s |> holds [0] 3 |> waits 0 1 .explicit 0 .stopped).port 1).lock.request.isWaiting = true := by
  refine ⟨fun x hx => ?_, by decide, by decide, by decide, by decide⟩
  simp only [List.mem_cons, List.not_mem_nil, or_false] at hx
  obtain rfl | rfl | rfl | rfl := hx <;> exact ⟨by decide, by decide, by decide, by decide⟩

theorem witness_RotationOrder :
    let s := s0 |> asks 0 .read 0 |> asks 2 .read 0
    s.nextGrant = some (.port 0) ∧ s.requests (.port 2) = true ∧ Requester.port 2 ≠ .port 0 := by decide

theorem witness_OutDataAndDiscard :
    Ready (modMsg 0 (fun r => { r with staging := [1, 2, 3, 4, 5] }) s0) 0 ∧
      Ready (modMsg 0 (fun r => { r with staging := [1, 2, 3, 4, 5, 6] }) s0) 0 :=
  ⟨ready_of (by decide), ready_of (by decide)⟩

/-- P1's queue has three free words. -/
def nearlyFull : State :=
  modMsg 0 (fun r => { r with staging := [1, 2] })
    (queued 1 [msg .normal 6, msg .normal 6, msg .normal 6, msg .normal 6, msg .normal 0] s0)

theorem witness_SendOutcomes :
    (Ready (detached 1 .leave false s0) 0 ∧ ¬ (detached 1 .leave false s0).takesMessages 1) ∧
      (Ready nearlyFull 0 ∧ nearlyFull.hasRoom 1 2) ∧
      (Ready (modMsg 0 (fun r => { r with staging := [1, 2, 3] }) nearlyFull) 0 ∧ nearlyFull.takesMessages 1 ∧
        ¬ nearlyFull.hasRoom 1 3 ∧ (0 : PortId) ≠ 1) := by
  unfold State.hasRoom State.takesMessages
  exact ⟨⟨ready_of (by decide), by decide⟩, ⟨ready_of (by decide), by decide⟩, ⟨ready_of (by decide), by decide⟩⟩

theorem witness_MessageInsertion :
    (msg .normal 0).cls = .normal ∧ (msg .urgent 6).cls = .urgent ∧ (∀ u ∈ [msg .urgent 0], u.cls = .urgent) ∧
      ∀ n ∈ [msg .normal 6], n.cls = .normal := by decide

theorem witness_InboxReads :
    (Ready s0 0 ∧ (s0.port 0).msg.queue = []) ∧
      Ready (queued 0 [msg .urgent 6] s0) 0 ∧
      Ready (modMsg 0 (fun r => { r with opened := true, readIndex := 6 }) (queued 0 [msg .urgent 6] s0)) 0 ∧
      (msg .urgent 6).payload[5]? = some 5 ∧ (msg .urgent 6).payload[6]? = none ∧ (msg .urgent 6).payload.length ≤ 6 :=
  ⟨⟨ready_of (by decide), by decide⟩, ready_of (by decide), ready_of (by decide), by decide⟩

theorem witness_PopAndFlush :
    (Ready s0 1 ∧ (s0.port 1).msg.queue = []) ∧
      (Ready sending 1 ∧ (sending.port 1).msg.queue ≠ [] ∧ ∀ e ∈ (sending.port 1).msg.holdList, e.sender ≠ 1) :=
  ⟨⟨ready_of (by decide), by decide⟩, ⟨ready_of (by decide), by decide⟩⟩

theorem witness_DrainOfHoldList :
    ((s0.port 1).msg.holdList = []) ∧
      (∃ e, (sending.port 1).msg.holdList = [e] ∧ 32 < wordsUsed (sending.port 1).msg.queue + 1 + e.length) ∧
      (∃ e, ((queued 1 [msg .normal 6] sending).port 1).msg.holdList = [e] ∧
        wordsUsed ((queued 1 [msg .normal 6] sending).port 1).msg.queue + 1 + e.length ≤ 32 ∧ e.sender ≠ 1 ∧
        ((queued 1 [msg .normal 6] sending).port e.sender).bus.phase = .send 1) ∧
      ((queued 1 [] (busOpen 0 .idle sending)).port 0).bus.phase ≠ .send 1 ∧ Ready sending 1 ∧ MessagesOk sending :=
  ⟨by decide, ⟨⟨0, .normal, 1, 2, .due⟩, by decide⟩,
    ⟨⟨0, .normal, 1, 2, .due⟩, by decide, by decide, by decide, by decide⟩, by decide,
    ready_of (by decide), sending_messagesOk⟩

theorem witness_HoldExpiryOutcome :
    (sending.nrst = false ∧ (sending.port 1).msg.holdList = [] ++ ⟨0, .normal, 1, 2, .due⟩ :: [] ∧
        (sending.port 0).bus.phase = .send 1) ∧
      ((heldSend 1 0 2 .due (heldSend 1 3 1 .stopped s0)).port 1).msg.holdList =
        [⟨3, .normal, 1, 1, .stopped⟩] ++ ⟨0, .normal, 1, 2, .due⟩ :: [] ∧
      ((busOpen 0 .idle sending).port 0).bus.phase ≠ .send 1 ∧
      (∀ e ∈ ((heldSend 1 0 2 .stopped s0).port 1).msg.holdList, e.sender = 0 → e.hold ≠ .due) :=
  ⟨⟨by decide, by decide, by decide⟩, by decide, by decide, by decide⟩

theorem witness_CopyParameterWrites : Ready s0 3 ∧ (4095 : Word).toNat ≤ 4095 ∧ 4095 < (4096 : Word).toNat :=
  ⟨ready_of (by decide), by decide⟩

theorem witness_StartAnswers :
    (Ready twoJobs 2 ∧ ∃ j ∈ twoJobs.jobs, j.requester = 2) ∧
      (Ready s0 2 ∧ (s0.port 2).copy.count = 0) ∧
      (Ready (modCopy 3 (fun c => { c with src := 0x7FFF, count := 2 }) twoJobs) 3) ∧
      (Ready (modCopy 3 (fun c => { c with src := 0x7FFE, count := 2 }) twoJobs) 3) ∧
      (∀ j ∈ twoJobs.jobs, j.requester ≠ 3) ∧ 0x7FFE + (2 : Word).toNat ≤ 0x8000 ∧ ¬ 0x7FFF + (2 : Word).toNat ≤ 0x8000 :=
  ⟨⟨ready_of (by decide), by decide⟩, ⟨ready_of (by decide), by decide⟩, ready_of (by decide), ready_of (by decide),
    by decide⟩

theorem witness_CopyCancelOutcome :
    (Ready twoJobs 3 ∧ ∀ j ∈ twoJobs.jobs, j.requester ≠ 3) ∧
      (Ready twoJobs 1 ∧ twoJobs.copyWord = some { index := 1, phase := .source }) ∧
      (Ready { twoJobs with copyWord := some ⟨1, .destination 7⟩ } 1) ∧
      (Ready twoJobs 2 ∧ twoJobs.jobs = job :: ([] ++ { job with requester := 2, state := .queued } :: [])) :=
  ⟨⟨ready_of (by decide), by decide⟩, ⟨ready_of (by decide), by decide⟩, ready_of (by decide),
    ⟨ready_of (by decide), by decide⟩⟩

theorem witness_SourceReadOutcome :
    (∀ x ∈ [(twoJobs, Verdict.permitted), (setDesc 0 (block 0 false 0 false) twoJobs, .rights (some 0)),
        (setDesc 0 (block 0xAA true 31 true) twoJobs, .guarded 0 31 true)],
      x.1.nrst = false ∧ x.1.nextGrant = some .copyEngine ∧ x.1.copyWord = some { index := 1, phase := .source } ∧
        1 < job.count ∧ x.1.check 1 .read (0x1000 + 1) = x.2) ∧ s0.nextGrant ≠ some .copyEngine ∧
      { twoJobs with copyWord := some ⟨1, .destination 9⟩ }.nextGrant = some .copyEngine := by decide

/-- The last word of the job is held for its write. -/
def writing (d : Descriptor) : State :=
  setDesc 0 { d with base := 0x2000 } { twoJobs with copyWord := some ⟨1, .destination 9⟩ }

theorem witness_DestinationWriteOutcome :
    (∀ x ∈ [(writing (block 0xAA false 0 false), Verdict.permitted), (writing (block 0x55 false 0 false), .rights (some 0)),
        (writing (block 0xAA true 31 true), .guarded 0 31 true)],
      x.1.nrst = false ∧ x.1.nextGrant = some .copyEngine ∧
        x.1.copyWord = some { index := 1, phase := .destination 9 } ∧ x.1.check 1 .write (0x2000 + 1) = x.2) ∧
      job.cancelMarked = false ∧ 1 + 1 = job.count ∧ 0 + 1 < job.count ∧
      twoJobs.nextGrant = some .copyEngine ∧ twoJobs.copyWord = some ⟨1, .source⟩ := by decide

theorem witness_JobEnding :
    JobsOk twoJobs ∧ (∃ k ∈ twoJobs.jobs, k.requester = job.requester) ∧ job.notice = none ∧
      (twoJobs.hasRoom 2 2) ∧ ¬ (queued 2 (List.replicate 5 (msg .normal 5)) twoJobs).hasRoom 2 2 := by
  unfold State.hasRoom State.takesMessages
  exact ⟨twoJobs_jobsOk, by decide⟩

theorem witness_CopyDirectionOverlapSafe :
    let j : Job := { job with source := 0x1000, destination := 0x1002, count := 5, direction := .descending }
    let k : Job := { job with source := 0x7FFF, destination := 0x7FFE, count := 1 }
    storeWf [(0x1000, 1), (0x1004, 5)] ∧ (j.direction = directionOf j.source.toNat j.destination.toNat j.count) ∧
      k.source.toNat + k.count ≤ 0x8000 ∧ k.destination.toNat + k.count ≤ 0x8000 ∧
      k.direction = directionOf k.source.toNat k.destination.toNat k.count := by decide

theorem witness_CauseAndFaultWrites : Ready s0 3 := ready_of (by decide)

theorem witness_RegisterCycles :
    Ready s0 0 ∧ Reg.tick ∉ [Reg.data, .xchg, .fadd, .inHead, .inData] ∧ (0xE000 : Word).extractLsb' 13 3 = 7 ∧
      (0x0003 : Word).extractLsb' 0 2 = 3 ∧ (0xC000 : Word).extractLsb' 14 2 = 3 ∧ (0 : PortId) = s0.configPort ∧
      0x33 ≤ (0x33 : BitVec 6).toNat := ⟨ready_of (by decide), by decide⟩

theorem witness_RegisterValues :
    ((s0.port 3).intr.faults = []) ∧ (∀ j ∈ s0.jobs, j.requester ≠ 3) ∧ ((s0.lock 31).waiters.length ≤ 4) ∧
      (((s0.refused 3 .badValue 0x1E (.write 32) none none).port 3).intr.faults =
        [⟨.badValue, .host, .write, 0x1E, none, none⟩]) ∧
      twoJobs.jobs = [job] ++ { job with requester := 2, state := .queued } :: [] ∧ (∀ x ∈ [job], x.requester ≠ 2) ∧
      (sending.port 0).msg.staging.length ≤ 6 ∧ (sending.port 1).msg.holdList.length ≤ 3 ∧
      wordsUsed (sending.port 1).msg.queue ≤ 32 := by decide

theorem witness_DetachedWindow :
    ReadyDetached (detached 1 .command false s0) 1 ∧ ReadyDetached (detached 1 .pin false s0) 1 ∧
      ReadyDetached (detached 1 .leave true s0) 1 ∧ ¬ ((1 : BitVec 6) = 1 ∧ (1 : Word).extractLsb' 0 2 = 2) ∧
      encodeCycle (.pop 1) = some (1, ⟨0x24, .write 1⟩) ∧ Ready s0 1 :=
  ⟨readyDetached_of (by decide), readyDetached_of (by decide), readyDetached_of (by decide), by decide, by decide,
    ready_of (by decide)⟩

/-- In the middle of an event, cycles of P1 and P3 are due. -/
def dueAt1 : State := s0 |> busOpen 1 .idle |> behind 1 ⟨0x10, .write 0x2300⟩ |> busOpen 3 .idle |> behind 3 ⟨0, .read⟩

theorem witness_CycleEndAndWaitingCycle :
    (((modBus 1 (fun _ => Bus.answered none true) s0).port 1).bus.strobe = true ∧
        ((modBus 1 (fun _ => Bus.answered none true) s0).port 1).bus.phase = .idle) ∧
      (((busOpen 1 .store s0).port 1).bus.strobe = true ∧ ((busOpen 1 .store s0).port 1).bus.phase ≠ .idle) ∧
      (s0.port 1).bus.strobe = false ∧ encodeCycle (.pop 1) = some (1, ⟨0x24, .write 1⟩) ∧
      ((modPort 1 (fun r => { r with prst := true }) s0).port 1).prst = true ∧
      (∀ q, s0.cycleDue q = false) ∧
      (dueAt1.cycleDue 1 = true ∧ dueAt1.cycleDue 3 = true ∧ dueAt1.cycleDue 0 = false ∧
        (dueAt1.port 1).bus.next = some ⟨0x10, .write 0x2300⟩ ∧ (dueAt1.port 1).attach.attached = true ∧
        ((detached 1 .leave true dueAt1).port 1).attach.attached = false) := by decide

theorem witness_DetachAndLeave :
    (Ready s0 0 ∧ (0 : PortId) = s0.configPort ∧ (s0.port 3).attach.attached = true ∧ (s0.port 3).bus.phase = .idle) ∧
      (Ready (detached 3 .pin true s0) 0 ∧ ((detached 3 .pin true s0).port 3).attach.attached = false) ∧
      (Ready (asks 3 .fadd 0 s0) 0 ∧ ((asks 3 .fadd 0 s0).port 3).bus.phase = .store ∧
        ((asks 3 .fadd 0 s0).port 3).engine.request = some .fadd) ∧
      (Ready (claims 3 .read .stopped s0) 0 ∧ ((claims 3 .read .stopped s0).port 3).bus.phase = .claim ∧
        ((claims 3 .read .stopped s0).port 3).held.isSome = true) ∧
      (Ready (heldSend 1 3 0 .stopped s0) 0 ∧ ((heldSend 1 3 0 .stopped s0).port 3).bus.phase = .send 1) :=
  ⟨⟨ready_of (by decide), by decide⟩, ⟨ready_of (by decide), by decide⟩,
    ⟨ready_of (by decide), by decide, by decide⟩,
    ⟨ready_of (by decide), by decide, by decide⟩,
    ⟨ready_of (by decide), by decide⟩⟩

/-- P1's pin is asserted and its teardown complete. -/
def pinned : State := modPort 1 (fun r => { r with prst := true }) (detached 1 .pin false s0)

theorem witness_PortResetPins :
    (pinned.port 1).prst = true ∧ pinned.nrst = false ∧ (pinned.port 1).attach.attached = false ∧
      (pinned.port 1).attach.reason = .pin ∧ (pinned.port 1).attach.pending = false ∧ (s0.port 1).prst = false ∧
      (s0.port 1).attach.attached = true ∧ ((detached 1 .leave true s0).port 1).attach.attached = false := by decide

/-- P1 is being torn down; it waited for L31 and holds L3. -/
def tearing : State := detached 1 .leave true (holds [3] 1 waiting)

/-- The same after the withdrawal, with L3 and the lost lock L9 to release. -/
def withdrawn : State :=
  detached 1 .leave true (holds [3] 1 s0) |> modAttach 1 fun a => { a with withdrawn := true, toRelease := [3, 9] }

theorem witness_WithdrawalAndRelease :
    (TearingDown tearing 1 ∧ (tearing.port 1).attach.withdrawn = false ∧
        (tearing.port 1).lock.request = .waiting 31 .explicit) ∧
      (TearingDown withdrawn 1 ∧ (withdrawn.port 1).attach.withdrawn = true ∧ 3 ∈ (withdrawn.port 1).attach.toRelease ∧
        9 ∈ (withdrawn.port 1).attach.toRelease ∧ (withdrawn.lock 3).state = .held 1 ∧ (withdrawn.lock 9).state ≠ .held 1 ∧
        withdrawn.orphan = .orphan ∧ ({ withdrawn with orphan := .handover } : State).orphan = .handover) ∧
      (s0.port 1).attach.withdrawn = false :=
  ⟨⟨tearingDown_of (by decide), by decide⟩, ⟨tearingDown_of (by decide), by decide⟩, by decide⟩

theorem witness_MessageTeardown :
    (TearingDown (detached 1 .leave true sending) 1 ∧ ((detached 1 .leave true sending).port 1).attach.messagesDown = false ∧
        ∀ q, ∀ e ∈ ((detached 1 .leave true sending).port q).msg.holdList, e.sender ≠ 1) ∧
      (TearingDown leaving 1 ∧ (leaving.port 1).attach.messagesDown = false ∧ MessagesOk leaving ∧
        (leaving.port 2).msg.holdList = [] ++ ⟨1, .normal, 1, 2, .stopped⟩ :: []) :=
  ⟨⟨tearingDown_of (by decide), by decide⟩, ⟨tearingDown_of (by decide), by decide, leaving_messagesOk, by decide⟩⟩

theorem twoJobs_detached_jobsOk : JobsOk (detached 1 .leave true twoJobs) :=
  ⟨twoJobs_jobsOk.onePerPort, twoJobs_jobsOk.headRuns, twoJobs_jobsOk.inStore, twoJobs_jobsOk.wordPresent,
    twoJobs_jobsOk.wordInJob⟩

theorem witness_CopyTeardown :
    TearingDown (detached 1 .leave true twoJobs) 1 ∧ ((detached 1 .leave true twoJobs).port 1).attach.copyDown = false ∧
      JobsOk (detached 1 .leave true twoJobs) ∧ (∃ j ∈ (detached 1 .leave true twoJobs).jobs, j.requester = 1) ∧
      ∀ j ∈ twoJobs.jobs, j.requester ≠ 3 :=
  ⟨tearingDown_of (by decide), by decide, twoJobs_detached_jobsOk, by decide, by decide⟩

theorem witness_CompletionOutcome :
    let s := modAttach 1 (fun a => { a with withdrawn := true, messagesDown := true, copyDown := true }) tearing
    TearingDown s 1 ∧ (s.port 1).attach.withdrawn = true ∧ (s.port 1).attach.toRelease = [] ∧
      (s.port 1).attach.messagesDown = true ∧ (s.port 1).attach.copyDown = true :=
  ⟨tearingDown_of (by decide), by decide⟩

theorem witness_DecodeOfEncodedCycle :
    wellFormed (.send 3 2 true true 0xFF) = true ∧
      encodeCycle (.send 3 2 true true 0xFF) = some (3, ⟨0x20, .write 0x72FF⟩) := by decide

theorem witness_WindowCycleRunsDecodedCommand : Ready s0 3 := ready_of (by decide)

theorem witness_StoreCanonicalKept :
    StoreCanonical (putWord 0x7FFF 1 s0) ∧ ∃ t, step (putWord 0x7FFF 1 s0) = .next t :=
  ⟨by unfold StoreCanonical; decide, _, rfl⟩

/-- P1 has lost L3. -/
def revoked : State := s0.revokedFrom 3 1

theorem witness_RevokedShownKept : RevokedShown revoked ∧ (revoked.port 1).lock.revoked ≠ 0 ∧ ∃ t, step revoked = .next t :=
  ⟨by unfold RevokedShown; decide, by decide, _, rfl⟩

theorem witness_ConfigurationLegalKept :
    ConfigLegal layered ∧ FaultQueuesBounded layered ∧ ∃ t, step layered = .next t :=
  ⟨⟨by decide, by decide, by decide, by decide, by decide⟩, by unfold FaultQueuesBounded; decide, _, rfl⟩

theorem witness_LockTableKept :
    (LockTableOk waiting ∧ HoldMaxKept waiting ∧ ∃ t, step waiting = .next t) ∧
      LockTableOk claimHeldState ∧ ∃ t, step claimHeldState = .next t :=
  ⟨⟨waiting_lockTableOk, by unfold HoldMaxKept; decide, _, rfl⟩, claimHeld_lockTableOk, _, rfl⟩

theorem witness_JobsKept : JobsOk twoJobs := twoJobs_jobsOk

/-- P1's claim is held, and a LOCK_CMD write waits behind it. -/
def claimBehind : State := claims 1 .read .stopped s0 |> behind 1 ⟨0x10, .write 0x2300⟩

theorem claimBehind_waitingCyclesOk : WaitingCyclesOk claimBehind := by constructor <;> decide

theorem witness_MessagesKept :
    (MessagesOk sending ∧ ∃ t, step sending = .next t) ∧ WaitingCyclesOk claimBehind ∧ ∃ t, step claimBehind = .next t :=
  ⟨⟨sending_messagesOk, _, rfl⟩, claimBehind_waitingCyclesOk, _, rfl⟩

theorem witness_QueuesOrderedKept :
    let s := modMsg 1 (fun r => { r with opened := true }) (queued 1 [msg .normal 1, msg .urgent 1, msg .normal 1] s0)
    QueuesOrdered s ∧ ∃ t, step s = .next t :=
  ⟨by constructor <;> decide, _, rfl⟩

end Sys2Proof.Tests
end

section
/-! The answers of TAKE, CANCEL and RENEW (R16, R19, R20). A port whose window is ready runs the command's event on the
state with the cycle begun; the event's equation, one per case, is then read back over the state before the cycle. -/

namespace Sys2Proof.Machine

variable {p : PortId} {l : LockId} {s : State}

/-! ### A window command and the cycle it begins -/

/-- A window command of a ready port runs its event on the state with the cycle begun. -/
theorem windowCommand_ready (h : Ready s p) (c : BusCycle) (body : State → State) :
    windowCommand p c body s = .next (settle (body (modBus p (fun _ => Bus.begin) s))) := by
  rw [windowCommand, hostCycle_ready p s h]

@[simp] theorem lock_modBus (q : PortId) (f : Bus → Bus) (m : LockId) : (modBus q f s).lock m = s.lock m := rfl

/-- A change of a bus leaves the request record of every port. -/
@[simp] theorem lockRecords_modBus (q p : PortId) (f : Bus → Bus) :
    ((modBus q f s).port p).lock = (s.port p).lock := by
  rw [modBus_eq, port_setPort]
  split
  case isTrue h => rw [h]
  case isFalse => rfl

@[simp] theorem heldLocks_modBus (q p : PortId) (f : Bus → Bus) : (modBus q f s).heldLocks p = s.heldLocks p := rfl

@[simp] theorem holdCount_modBus (q p : PortId) (f : Bus → Bus) : (modBus q f s).holdCount p = s.holdCount p := by
  simp [State.holdCount]

/-! ### The answer in LOCK_RESULT -/

/-- The answer of a lock command whose cycle the window took in this event (R15). -/
@[simp] theorem answerLock_begin (o : LockOutcome) :
    answerLock p o l (modBus p (fun _ => Bus.begin) s) = s.lockAnswered p o l := by
  simp [answerLock, modLockPort_eq, modBus_begin_eq, done_eq, State.lockAnswered, State.after]

/-- The answer touches no lock record. -/
theorem answerLock_setLock (o : LockOutcome) (m : LockId) (r : LockRecord) :
    answerLock p o l (setLock m r s) = setLock m r (answerLock p o l s) := rfl

/-! ### TAKE -/

theorem exec_take_ready (h : Ready s p) :
    exec (.take p l) s = .next (settle (lockTake p l (modBus p (fun _ => Bus.begin) s))) :=
  windowCommand_ready h _ _

theorem lockTake_alreadyHeld (h : (s.lock l).state = .held p) :
    lockTake p l s = answerLock p .refusedAlreadyHeld l s := by
  simp [lockTake, h]

theorem lockTake_busy (hfree : (s.lock l).state ≠ .free) (hheld : (s.lock l).state ≠ .held p) :
    lockTake p l s = answerLock p .busy l s := by
  cases h : (s.lock l).state with
  | free => exact absurd h hfree
  | held q =>
    have hq : q ≠ p := fun he => hheld (he ▸ h)
    simp [lockTake, h, hq]
  | orphaned => simp [lockTake, h]

theorem lockTake_holdLimit (hfree : (s.lock l).state = .free) (hfull : 8 ≤ s.holdCount p) :
    lockTake p l s = answerLock p .refusedHoldLimit l s := by
  simp [lockTake, hfree, Config.holdMax, hfull]

theorem lockTake_granted (hfree : (s.lock l).state = .free) (hroom : s.holdCount p < 8) :
    lockTake p l s =
      setLock l ((s.lock l).granted p (s.lock l).waiters) (answerLock p .granted l s) := by
  have hfull : ¬ Config.holdMax ≤ s.holdCount p := Nat.not_le.mpr hroom
  simp only [lockTake, hfree, hfull, if_false]
  rw [grantLock_eq, answerLock_setLock]
  rfl

theorem exec_take_busy (h : Ready s p) (hfree : (s.lock l).state ≠ .free) (hheld : (s.lock l).state ≠ .held p) :
    exec (.take p l) s = .next (settle (s.lockAnswered p .busy l)) := by
  rw [exec_take_ready h, lockTake_busy (by simpa using hfree) (by simpa using hheld), answerLock_begin]

/-- In a well-structured lock table the lock a port waits for is not FREE, because its wait list is not empty (R4). -/
theorem LockTableOk.waited_ne_free (ht : LockTableOk s) {k : WaitKind} (hw : (s.port p).lock.request = .waiting l k) :
    (s.lock l).state ≠ .free := by
  intro hfree
  obtain ⟨w, hmem, -⟩ := ht.recordEntered p l k hw
  rw [ht.freeEmpty l hfree] at hmem
  exact List.not_mem_nil hmem

/-- In a well-structured lock table no port waits for a lock it holds (R11). -/
theorem LockTableOk.waited_ne_held (ht : LockTableOk s) {k : WaitKind} (hw : (s.port p).lock.request = .waiting l k) :
    (s.lock l).state ≠ .held p := by
  intro hheld
  obtain ⟨w, hmem, hport⟩ := ht.recordEntered p l k hw
  exact ht.holderApart l p hheld w hmem hport

/-- Settles O6: each case of R16 by its equation of `lockTake`; the lock waited for is BUSY because the structure of the
lock table leaves only a holder apart from the port, or ORPHANED. -/
theorem takeAnswers : Obligations.TakeAnswers := by
  intro p l s hr
  refine ⟨fun hheld => ?alreadyHeld, fun h hne hheld => ?heldByOther, fun horph => ?orphaned,
    fun hfree hfull => ?holdLimit, fun hfree hroom => ?granted, fun ht k hw => ?waitedFor⟩
  case alreadyHeld => rw [exec_take_ready hr, lockTake_alreadyHeld (by simpa using hheld), answerLock_begin]
  case heldByOther => exact exec_take_busy hr (by simp [hheld]) (by simpa [hheld] using hne)
  case orphaned => exact exec_take_busy hr (by simp [horph]) (by simp [horph])
  case holdLimit =>
    rw [exec_take_ready hr, lockTake_holdLimit (by simpa using hfree) (by simpa using hfull), answerLock_begin]
  case granted =>
    rw [exec_take_ready hr, lockTake_granted (by simpa using hfree) (by simpa using hroom), answerLock_begin,
      lock_modBus]
  case waitedFor => exact exec_take_busy hr (ht.waited_ne_free hw) (ht.waited_ne_held hw)

/-! ### CANCEL -/

theorem exec_cancel_ready (h : Ready s p) :
    exec (.cancel p l) s = .next (settle (lockCancel p l (modBus p (fun _ => Bus.begin) s))) :=
  windowCommand_ready h _ _

/-- A CANCEL from a WAITING port whose cycle the window took in this event: the entry of the port's own wait goes,
whatever lock `l` the command names. -/
theorem lockCancel_waiting {m : LockId} {k : WaitKind} (hw : (s.port p).lock.request = .waiting m k) :
    lockCancel p l (modBus p (fun _ => Bus.begin) s) =
      setLock m { s.lock m with waiters := dropWaiter p (s.lock m).waiters }
        (s.after p (fun r => { r with
          lock := { r.lock with request := .cancelled m k, result := { outcome := .cancelled, lock := m } }
          intr := r.intr.raised .lockOutcome }) none) := by
  simp [lockCancel, hw, removeWaiter, modLock_eq, writeRequest_eq, setCause_eq, answerLock, modLockPort_eq, done_eq,
    modBus_begin_eq, setPort_setLock, State.after, InterruptRecord.raised]

theorem lockCancel_noRequest (h : (s.port p).lock.request.isWaiting = false) :
    lockCancel p l s = answerLock p .refusedNoRequest l s := by
  cases hq : (s.port p).lock.request with
  | waiting m k => simp [hq, RequestRecord.isWaiting] at h
  | idle | granted | timedOut | cancelled => simp [lockCancel, hq]

/-- Settles O9, by whether the request record is WAITING (R19). -/
theorem cancelAnswers : Obligations.CancelAnswers := by
  intro p l s hr
  refine ⟨fun m k hw => ?waiting, fun hnot => ?noRequest⟩
  case waiting => rw [exec_cancel_ready hr, lockCancel_waiting hw, dropWaiter]
  case noRequest => rw [exec_cancel_ready hr, lockCancel_noRequest (by simpa using hnot), answerLock_begin]

/-! ### RENEW -/

theorem exec_renew_ready (h : Ready s p) :
    exec (.renew p l) s = .next (settle (lockRenew p l (modBus p (fun _ => Bus.begin) s))) :=
  windowCommand_ready h _ _

theorem lockRenew_reloads (hheld : (s.lock l).state = .held p) (hperiod : (s.lock l).leasePeriod ≠ 0) :
    lockRenew p l s =
      setLock l { s.lock l with lease := .running (s.lock l).leasePeriod } (answerLock p .renewed l s) := by
  have hload : Countdown.load (s.lock l).leasePeriod = .running (s.lock l).leasePeriod := if_neg hperiod
  simp only [lockRenew, hheld, hperiod, if_true, if_false, modLock_eq, hload, answerLock_setLock]

theorem lockRenew_periodZero (hheld : (s.lock l).state = .held p) (hperiod : (s.lock l).leasePeriod = 0) :
    lockRenew p l s = answerLock p .renewed l s := by
  simp [lockRenew, hheld, hperiod]

theorem lockRenew_notHolder (hheld : (s.lock l).state ≠ .held p) :
    lockRenew p l s = answerLock p .refusedNotHolder l s := by
  simp [lockRenew, hheld]

/-- Settles O10, by whether the port holds the lock and, for the holder, whether the lease period is 0 (R20). -/
theorem renewAnswers : Obligations.RenewAnswers := by
  intro p l s hr
  refine ⟨fun hheld hperiod => ?reloads, fun hheld hperiod => ?periodZero, fun hheld => ?notHolder⟩
  case reloads =>
    rw [exec_renew_ready hr, lockRenew_reloads (by simpa using hheld) (by simpa using hperiod), answerLock_begin,
      lock_modBus]
  case periodZero =>
    rw [exec_renew_ready hr, lockRenew_periodZero (by simpa using hheld) (by simpa using hperiod), answerLock_begin]
  case notHolder => rw [exec_renew_ready hr, lockRenew_notHolder (by simpa using hheld), answerLock_begin]

end Sys2Proof.Machine
end

section
/-! The reads of the inbox, IN_HEAD and IN_DATA (R115, R129, R130): the equation of each read for an empty queue, a
payload word and the end of the payload, and the header word as the number whose digits are the fields of
Table 10-4. -/

namespace Sys2Proof.Machine

variable {p : PortId} {s : State}

/-! ### A message command whose cycle the window took -/

@[simp] theorem msg_modBus_begin : ((modBus p (fun _ => Bus.begin) s).port p).msg = (s.port p).msg := by
  simp [modBus_begin_eq]

/-- The completion of a cycle that the window took in this event. -/
theorem done_begin (data : Option Word) :
    done p data (modBus p (fun _ => Bus.begin) s) = s.after p id data := by
  simp [done_eq, modBus_begin_eq, State.after]

/-- The same after a change of the port's message records. -/
theorem done_modMsg_begin (f : MessagePortRecord → MessagePortRecord) (data : Option Word) :
    done p data (modMsg p f (modBus p (fun _ => Bus.begin) s)) =
      s.after p (fun r => { r with msg := f r.msg }) data := by
  simp [done_eq, modMsg_eq, modBus_begin_eq, State.after]

/-! ### IN_HEAD -/

theorem exec_inHeadRead_ready (h : Ready s p) :
    exec (.inHeadRead p) s = .next (settle (readInHead p (modBus p (fun _ => Bus.begin) s))) :=
  windowCommand_ready h _ _

theorem readInHead_empty (h : (s.port p).msg.queue = []) : readInHead p s = done p (some 0) s := by
  simp [readInHead, h]

theorem readInHead_front {m : Message} {ms : List Message} (h : (s.port p).msg.queue = m :: ms) :
    readInHead p s =
      done p (some (headerWord m)) (modMsg p (fun r => { r with opened := true, readIndex := 0 }) s) := by
  simp [readInHead, h]

/-! ### IN_DATA -/

/-- The payload index of an IN_DATA read: that of the opened front message, and 0 for one that is not open (R130). -/
def MessagePortRecord.dataIndex (r : MessagePortRecord) : Nat := if r.opened then r.readIndex else 0

theorem exec_inDataRead_ready (h : Ready s p) :
    exec (.inDataRead p) s = .next (settle (readInData p (modBus p (fun _ => Bus.begin) s))) :=
  windowCommand_ready h _ _

theorem readInData_empty (h : (s.port p).msg.queue = []) : readInData p s = done p (some 0) s := by
  simp [readInData, h]

theorem readInData_word {m : Message} {ms : List Message} {w : Word} (h : (s.port p).msg.queue = m :: ms)
    (hw : m.payload[(s.port p).msg.dataIndex]? = some w) :
    readInData p s =
      done p (some w)
        (modMsg p (fun r => { r with opened := true, readIndex := (s.port p).msg.dataIndex + 1 }) s) := by
  unfold MessagePortRecord.dataIndex at hw ⊢
  simp [readInData, h, hw]

theorem readInData_end {m : Message} {ms : List Message} (h : (s.port p).msg.queue = m :: ms)
    (hend : m.payload[(s.port p).msg.dataIndex]? = none) :
    readInData p s =
      done p (some 0)
        (modMsg p (fun r => { r with opened := true, readIndex := (s.port p).msg.dataIndex }) s) := by
  unfold MessagePortRecord.dataIndex at hend ⊢
  simp only [readInData, h, hend]

/-! ### The header word -/

/-- A field above another one of `n` bits weighs `2 ^ n`. -/
theorem toNat_append_eq_mul_add {k n : Nat} (x : BitVec k) (y : BitVec n) :
    (x ++ y).toNat = x.toNat * 2 ^ n + y.toNat := by
  rw [BitVec.toNat_append, ← Nat.shiftLeft_add_eq_or_of_lt y.isLt, Nat.shiftLeft_eq]

theorem msgClassCode_pos (c : MsgClass) : 0 < (msgClassCode c).toNat := by
  cases c <;> decide

/-- The layout of a header (Table 10-4); the length field holds the length modulo 8. -/
theorem toNat_headerWord (m : Message) :
    (headerWord m).toNat = (msgClassCode m.cls).toNat * 2 ^ 14 + m.sender.val * 2 ^ 12 +
      (msgOriginBit m.origin).toNat * 2 ^ 11 + m.payload.length % 8 * 2 ^ 8 + m.tag.toNat := by
  have hsender : m.sender.val % 4 = m.sender.val := Nat.mod_eq_of_lt m.sender.isLt
  simp only [headerWord, toNat_append_eq_mul_add, BitVec.toNat_ofNat, Nat.reducePow, hsender]
  ring

/-- No header reads as an empty queue does, because every class has a code other than 0. -/
theorem headerWord_ne_zero (m : Message) : headerWord m ≠ 0 := by
  intro h0
  have hzero : (headerWord m).toNat = 0 := congrArg BitVec.toNat h0
  have hlayout := toNat_headerWord m
  have hclass := msgClassCode_pos m.cls
  omega

/-- Settles O31: each read by its equation for the empty queue, a payload word or the end of the payload; the header
by the layout of its fields, the length of a message of at most six words (R114) fitting its three bits. -/
theorem inboxReads : Obligations.InboxReads := by
  intro p s hr
  refine ⟨fun hempty => ⟨?headEmpty, ?dataEmpty⟩, fun m ms hfront =>
    ⟨?head, fun w hw => ?word, fun hend => ?payloadEnd, headerWord_ne_zero m, fun hlen => ?layout⟩⟩
  case headEmpty => rw [exec_inHeadRead_ready hr, readInHead_empty (by simpa using hempty), done_begin]
  case dataEmpty => rw [exec_inDataRead_ready hr, readInData_empty (by simpa using hempty), done_begin]
  case head => rw [exec_inHeadRead_ready hr, readInHead_front (by simpa using hfront), done_modMsg_begin]
  case word =>
    rw [exec_inDataRead_ready hr, readInData_word (by simpa using hfront) (by rw [msg_modBus_begin]; exact hw),
      done_modMsg_begin, msg_modBus_begin]
    rfl
  case payloadEnd =>
    rw [exec_inDataRead_ready hr, readInData_end (by simpa using hfront) (by rw [msg_modBus_begin]; exact hend),
      done_modMsg_begin, msg_modBus_begin]
    rfl
  case layout =>
    have hfits : m.payload.length % 8 = m.payload.length := Nat.mod_eq_of_lt (by omega)
    rw [toNat_headerWord, hfits]
    cases m.cls <;> cases m.origin <;> rfl

end Sys2Proof.Machine
end

section
/-! The window as one decoder (R204, R209, R210): the register at a cycle's address, the fields of the words that spell
a command, and the two ways to name a cycle. Every window command runs the register that its own cycle decodes to. -/

namespace Sys2Proof.Machine

/- Elaborates the proofs of this section one after another. Queued as tasks they would hold back the kernel checks that
the tests' `decide +kernel` proofs above wait for, and each waiting proof costs the compile a thread of 1 GiB. -/
set_option deprecated.oldSectionVars true

variable {p : PortId} {s : State}

/-! ### One step -/

/-- Settles O1: both cases of the queue by definition. -/
theorem stepRunsFrontCommand : Obligations.StepRunsFrontCommand := by
  refine ⟨fun c rest s hfront => ?front, fun s hempty => ?idle⟩
  case front => simp [step, hfront]
  case idle => simp [step, hempty]

/-! ### The address of a register -/

@[simp] theorem regAt_regAddr (r : Reg) : regAt (regAddr r) = some r := by
  cases r <;> rfl

/-- The address of a register is half its offset, whatever the register (Table 10-1). -/
theorem regAddr_of_regAt {a : BitVec 6} {r : Reg} (h : regAt a = some r) : regAddr r = a := by
  revert a r
  decide

theorem regAt_eq_none_iff (a : BitVec 6) : regAt a = none ↔ 0x33 ≤ a.toNat := by
  simp [regAt, windowMap]

/-- The address that a fault record gives for a cycle at a register is the register's byte offset (R175). -/
theorem byteOffset_regAddr (r : Reg) : 2 * (regAddr r).toNat = regOffset r := by
  cases r <;> rfl

theorem windowAccess_cycleAt (r : Reg) (op : CycleOp) : windowAccess p (cycleAt r op) = registerAccess p r op := by
  simp [windowAccess, cycleAt]

/-! ### The fields of a command word -/

/-- A field of a word, as a number: the word without the bits below the field, modulo the field's range. -/
theorem toNat_extractLsb'_eq_div_mod {n : Nat} (x : BitVec n) (start len : Nat) :
    (x.extractLsb' start len).toNat = x.toNat / 2 ^ start % 2 ^ len := by
  rw [BitVec.extractLsb'_toNat, Nat.shiftRight_eq_div_pow]

/-- A bit of a word, as a digit of its number. -/
theorem getLsbD_eq_decide {n : Nat} (x : BitVec n) (i : Nat) : x.getLsbD i = decide (x.toNat / 2 ^ i % 2 = 1) := by
  rw [← BitVec.testBit_toNat, Nat.testBit_eq_decide_div_mod_eq]

theorem toNat_lockCmdWord (code : BitVec 3) (l : LockId) (n : Ticks) :
    (lockCmdWord code l n).toNat = code.toNat * 2 ^ 13 + l.val * 2 ^ 8 + n.toNat := by
  have hl : l.val % 32 = l.val := Nat.mod_eq_of_lt l.isLt
  simp only [lockCmdWord, toNat_append_eq_mul_add, BitVec.toNat_ofNat, Nat.reducePow, hl]
  ring

@[simp] theorem lockCode_lockCmdWord (code : BitVec 3) (l : LockId) (n : Ticks) :
    lockCode (lockCmdWord code l n) = code := by
  have hl := l.isLt
  have hn := n.isLt
  have hc := code.isLt
  apply BitVec.eq_of_toNat_eq
  rw [lockCode, toNat_extractLsb'_eq_div_mod, toNat_lockCmdWord]
  omega

@[simp] theorem lockCmdLock_lockCmdWord (code : BitVec 3) (l : LockId) (n : Ticks) :
    lockCmdLock (lockCmdWord code l n) = l := by
  have hl := l.isLt
  have hn := n.isLt
  apply Fin.ext
  change ((lockCmdWord code l n).extractLsb' 8 5).toNat = l.val
  rw [toNat_extractLsb'_eq_div_mod, toNat_lockCmdWord]
  omega

@[simp] theorem lockCmdPatience_lockCmdWord (code : BitVec 3) (l : LockId) (n : Ticks) :
    lockCmdPatience (lockCmdWord code l n) = n := by
  have hn := n.isLt
  apply BitVec.eq_of_toNat_eq
  rw [lockCmdPatience, toNat_extractLsb'_eq_div_mod, toNat_lockCmdWord]
  omega

theorem toNat_sendWord (dest : PortId) (urgent hold : Bool) (tag : BitVec 8) :
    (sendWord dest urgent hold tag).toNat =
      2 ^ 14 + urgent.toNat * 2 ^ 13 + hold.toNat * 2 ^ 12 + dest.val * 2 ^ 8 + tag.toNat := by
  have hd : dest.val % 4 = dest.val := Nat.mod_eq_of_lt dest.isLt
  simp only [sendWord, bit, toNat_append_eq_mul_add, BitVec.toNat_ofNat, Nat.reducePow, hd, BitVec.toNat_ofBool]
  simp
  ring

@[simp] theorem highCode_sendWord (dest : PortId) (urgent hold : Bool) (tag : BitVec 8) :
    highCode (sendWord dest urgent hold tag) = 1 := by
  have hu := urgent.toNat_le
  have hh := hold.toNat_le
  have hd := dest.isLt
  have ht := tag.isLt
  apply BitVec.eq_of_toNat_eq
  rw [highCode, toNat_extractLsb'_eq_div_mod, toNat_sendWord]
  show _ = 1
  omega

@[simp] theorem sendDest_sendWord (dest : PortId) (urgent hold : Bool) (tag : BitVec 8) :
    sendDest (sendWord dest urgent hold tag) = dest := by
  have hd := dest.isLt
  have ht := tag.isLt
  apply Fin.ext
  change ((sendWord dest urgent hold tag).extractLsb' 8 2).toNat = dest.val
  rw [toNat_extractLsb'_eq_div_mod, toNat_sendWord]
  omega

@[simp] theorem sendTag_sendWord (dest : PortId) (urgent hold : Bool) (tag : BitVec 8) :
    sendTag (sendWord dest urgent hold tag) = tag := by
  have ht := tag.isLt
  apply BitVec.eq_of_toNat_eq
  rw [sendTag, toNat_extractLsb'_eq_div_mod, toNat_sendWord]
  omega

@[simp] theorem sendUrgent_sendWord (dest : PortId) (urgent hold : Bool) (tag : BitVec 8) :
    sendUrgent (sendWord dest urgent hold tag) = urgent := by
  have hh := hold.toNat_le
  have hd := dest.isLt
  have ht := tag.isLt
  rw [sendUrgent, getLsbD_eq_decide, toNat_sendWord]
  cases urgent <;> simp <;> omega

@[simp] theorem sendHold_sendWord (dest : PortId) (urgent hold : Bool) (tag : BitVec 8) :
    sendHold (sendWord dest urgent hold tag) = hold := by
  have hu := urgent.toNat_le
  have hd := dest.isLt
  have ht := tag.isLt
  rw [sendHold, getLsbD_eq_decide, toNat_sendWord]
  cases hold <;> simp <;> omega

theorem toNat_detachWord (target : PortId) : (detachWord target).toNat = 2 ^ 14 + target.val := by
  fin_cases target <;> rfl

@[simp] theorem highCode_detachWord (target : PortId) : highCode (detachWord target) = 1 := by
  fin_cases target <;> rfl

@[simp] theorem portCmdPort_detachWord (target : PortId) : portCmdPort (detachWord target) = target := by
  fin_cases target <;> rfl

/-! ### A command and the register of its cycle -/

/-- Every window command runs what its own cycle asks of the window. -/
theorem exec_window {i : Instr} {c : BusCycle} (h : encodeCycle i = some (p, c)) :
    exec i s = windowCommand p c (windowAccess p c) s := by
  cases i <;> simp only [encodeCycle, Option.some.injEq, Prod.mk.injEq, reduceCtorEq] at h <;>
    obtain ⟨rfl, rfl⟩ := h
  case take l => simp [exec, execTake, windowAccess_cycleAt, registerAccess, writeRegister, writeLockCmd]
  case wait l n => simp [exec, execWait, windowAccess_cycleAt, registerAccess, writeRegister, writeLockCmd]
  case release l => simp [exec, execRelease, windowAccess_cycleAt, registerAccess, writeRegister, writeLockCmd]
  case cancel l => simp [exec, execCancel, windowAccess_cycleAt, registerAccess, writeRegister, writeLockCmd]
  case renew l => simp [exec, execRenew, windowAccess_cycleAt, registerAccess, writeRegister, writeLockCmd]
  case forceRelease l =>
    simp [exec, execForceRelease, windowAccess_cycleAt, registerAccess, writeRegister, writeLockCmd]
  case send d u h t => simp [exec, execSend, windowAccess_cycleAt, registerAccess, writeRegister, writeOutCmd]
  case detach t => simp [exec, execDetach, windowAccess_cycleAt, registerAccess, writeRegister, writePortCmd]
  case registerWrite r op => rw [windowAccess_cycleAt]; rfl
  all_goals rfl

/-! ### A decoded cycle -/

/-- The writes of the eight command registers that have a row of their own, by the register's code. -/
theorem hasOwnRow_command (w : Word) :
    hasOwnRow .lockCmd (.write w) = (lockCode w != 0 && lockCode w != 7) ∧
    (∀ r ∈ [Reg.descCmd, .inCtrl, .copyCmd, .faultCtrl, .portState],
      hasOwnRow r (.write w) = (lowCode w == 1 || lowCode w == 2)) ∧
    hasOwnRow .outCmd (.write w) = (highCode w == 1 || highCode w == 2) ∧
    hasOwnRow .portCmd (.write w) = (highCode w == 1) := by
  refine ⟨rfl, ?_, rfl, rfl⟩
  simp only [List.forall_mem_cons, List.not_mem_nil, false_imp_iff, implies_true, and_true]
  exact ⟨rfl, rfl, rfl, rfl, rfl⟩

/-- The lock codes that name no command are 0 and 7. -/
theorem lockCode_unnamed (c : BitVec 3) (h : c ≠ 1 ∧ c ≠ 2 ∧ c ≠ 3 ∧ c ≠ 4 ∧ c ≠ 5 ∧ c ≠ 6) : c = 0 ∨ c = 7 := by
  revert c
  decide

theorem decodeWrite_wellFormed (r : Reg) (w : Word) : wellFormed (decodeWrite p r w) = true := by
  obtain ⟨hlock, hlow, hout, hport⟩ := hasOwnRow_command w
  cases r
  case lockCmd =>
    simp only [decodeWrite]
    split
    case h_7 h1 h2 h3 h4 h5 h6 =>
      simpa [wellFormed, hlock] using lockCode_unnamed _ ⟨h1, h2, h3, h4, h5, h6⟩
    all_goals rfl
  case outCmd | portCmd =>
    simp only [decodeWrite]
    split <;> simp_all [wellFormed]
  case descCmd | inCtrl | copyCmd | faultCtrl | portState =>
    simp only [decodeWrite]
    split <;> simp_all [wellFormed]
  all_goals rfl

/-- A write decodes to a command whose own cycle writes the same register, to the same effect. The eight command
registers decode by a code, every other register by itself. -/
theorem decodeWrite_encodes (r : Reg) (w : Word) :
    ∃ op, encodeCycle (decodeWrite p r w) = some (p, cycleAt r op) ∧ registerAccess p r op = writeRegister p r w := by
  have hdiscard : highCode discardWord = 2#2 := rfl
  have hlow1 : lowCode 1#16 = 1#2 := rfl
  have hlow2 : lowCode 2#16 = 2#2 := rfl
  cases r
  case lockCmd | descCmd | outCmd | inCtrl | copyCmd | faultCtrl | portState | portCmd =>
    simp only [decodeWrite]
    split <;> rename_i hcode <;> refine ⟨_, rfl, ?_⟩ <;>
      simp [registerAccess, writeRegister, writeLockCmd, writeDescCmd, writeOutCmd, writeInCtrl, writeCopyCmd,
        writeFaultCtrl, writePortState, writePortCmd, hcode, hdiscard, hlow1, hlow2]
  all_goals exact ⟨_, rfl, rfl⟩

/-- A read decodes to a well-formed command whose own cycle is that read. -/
theorem decodeRead_encodes (r : Reg) :
    wellFormed (decodeRead p r) = true ∧ encodeCycle (decodeRead p r) = some (p, cycleAt r .read) := by
  cases r <;> exact ⟨rfl, rfl⟩

theorem decodeCycle_wellFormed (c : BusCycle) : wellFormed (decodeCycle p c) = true := by
  obtain ⟨a, op⟩ := c
  unfold decodeCycle
  split
  next hreg => simpa [wellFormed] using (regAt_eq_none_iff a).mp hreg
  next r hreg hop => exact (decodeRead_encodes r).1
  next r w hreg hop => exact decodeWrite_wellFormed r w

/-- Every cycle decodes to a command whose own cycle stands at the same address, to the same effect. -/
theorem decodeCycle_encodes (c : BusCycle) :
    ∃ d, encodeCycle (decodeCycle p c) = some (p, d) ∧ d.addr = c.addr ∧ windowAccess p d = windowAccess p c := by
  obtain ⟨a, op⟩ := c
  cases hreg : regAt a with
  | none => exact ⟨⟨a, op⟩, by simp [decodeCycle, hreg, encodeCycle]⟩
  | some r =>
    obtain rfl : regAddr r = a := regAddr_of_regAt hreg
    cases op with
    | read =>
      refine ⟨cycleAt r .read, ?_, rfl, rfl⟩
      simpa [decodeCycle] using (decodeRead_encodes r).2
    | write w =>
      obtain ⟨op, henc, haccess⟩ := decodeWrite_encodes (p := p) r w
      refine ⟨cycleAt r op, by simpa [decodeCycle] using henc, rfl, ?_⟩
      rw [windowAccess_cycleAt, haccess]
      exact (windowAccess_cycleAt r (.write w)).symm

/-- The command a cycle decodes to runs what that cycle asks of the window. -/
theorem exec_decodeCycle (c : BusCycle) : ∃ d, exec (decodeCycle p c) s = windowCommand p d (windowAccess p c) s := by
  obtain ⟨d, henc, -, haccess⟩ := decodeCycle_encodes (p := p) c
  exact ⟨d, haccess ▸ exec_window henc⟩

theorem decodeRead_of_noRow {r : Reg} (h : hasOwnRow r .read = false) : decodeRead p r = .registerWrite p r .read := by
  cases r
  case data | xchg | fadd | inHead | inData => cases h
  all_goals rfl

theorem decodeWrite_of_noRow {r : Reg} {w : Word} (h : hasOwnRow r (.write w) = false) :
    decodeWrite p r w = .registerWrite p r (.write w) := by
  obtain ⟨hlock, hlow, hout, hport⟩ := hasOwnRow_command w
  cases r
  case lockCmd | outCmd | portCmd | descCmd | inCtrl | copyCmd | faultCtrl | portState =>
    simp only [decodeWrite]
    split <;> simp_all
  case data | intCause | intMask | ptr | step | opnd | lockSel | revokedLo | revokedHi | lockCfg | descSel | descBase |
      descAttr | descRights | outData | copySrc | copyDst | copyCount | copyNotice | tick | holdLimit | failWord |
      orphan | ranks | defaultRights => cases h
  all_goals rfl

/-- A command decodes from its own cycle. -/
theorem decodeCycle_of_encodes {i : Instr} {c : BusCycle} (hwf : wellFormed i = true)
    (h : encodeCycle i = some (p, c)) : decodeCycle p c = i := by
  cases i <;> simp only [encodeCycle, Option.some.injEq, Prod.mk.injEq, reduceCtorEq] at h <;>
    obtain ⟨rfl, rfl⟩ := h
  case unassignedAccess addr op =>
    have hreg : regAt addr = none := (regAt_eq_none_iff addr).mpr (by simpa [wellFormed] using hwf)
    simp [decodeCycle, hreg]
  case registerWrite r op =>
    have hrow : hasOwnRow r op = false := by simpa [wellFormed] using hwf
    cases op with
    | read => simpa [decodeCycle, cycleAt] using decodeRead_of_noRow hrow
    | write w => simpa [decodeCycle, cycleAt] using decodeWrite_of_noRow hrow
  case take l | wait l n | release l | cancel l | renew l | forceRelease l =>
    simp [decodeCycle, cycleAt, decodeWrite]
  case send | detach =>
    simp [decodeCycle, cycleAt, decodeWrite]
  all_goals rfl

/-- Settles O52: the command of a cycle by `decodeCycle_of_encodes`, the cycle of a decoded command by
`decodeCycle_encodes`. -/
theorem decodeOfEncodedCycle : Obligations.DecodeOfEncodedCycle := by
  refine ⟨fun i p c hwf henc => decodeCycle_of_encodes hwf henc, fun p c => ⟨decodeCycle_wellFormed c, ?_⟩⟩
  obtain ⟨d, henc, haddr, -⟩ := decodeCycle_encodes (p := p) c
  exact ⟨d, henc, haddr⟩

/-- Settles O53: the decoded command runs what its cycle asks of the window, which is ready for it. -/
theorem windowCycleRunsDecodedCommand : Obligations.WindowCycleRunsDecodedCommand := by
  intro p c s hr
  obtain ⟨d, hexec⟩ := exec_decodeCycle (p := p) (s := s) c
  rw [hexec, windowCommand_ready hr]
  rfl

end Sys2Proof.Machine
end

section
/-! What a step can do, said once: the events that a cycle of an attached window can be (`WindowEvent`), the answers of a
command (`Runs`), and what a property of the part has to show for the cycles of the windows (`WindowKeeps`). The proofs
of the invariants go through these and unfold neither the dispatch nor the register decoder. -/

namespace Sys2Proof.Machine

/-- The events that a cycle of an attached window of port `p` can be. -/
inductive WindowEvent (p : PortId) : (State → State) → Prop
  | answer (data : State → Option Word) : WindowEvent p fun s => done p (data s) s
  | refuse (k : FaultKind) (c : BusCycle) : WindowEvent p (refuseCycle p k c none none)
  | portCmdCode (w : Word) : WindowEvent p (configWrite p .portCmd w (badValue p .portCmd w))
  | take (l : LockId) : WindowEvent p (lockTake p l)
  | wait (l : LockId) (n : Ticks) : WindowEvent p (lockWait p l n)
  | release (l : LockId) : WindowEvent p (lockRelease p l)
  | cancel (l : LockId) : WindowEvent p (lockCancel p l)
  | renew (l : LockId) : WindowEvent p (lockRenew p l)
  | force (l : LockId) : WindowEvent p (lockForce p l)
  | lockSel (w : Word) : WindowEvent p (writeLockSel p w)
  | lockCfg (w : Word) : WindowEvent p (writeLockCfg p w)
  | tick (w : Word) : WindowEvent p (writeTick p w)
  | holdLimit (w : Word) : WindowEvent p (writeHoldLimit p w)
  | failWord (w : Word) : WindowEvent p (writeFailWord p w)
  | orphan (w : Word) : WindowEvent p (writeOrphan p w)
  | ranks (w : Word) : WindowEvent p (writeRanks p w)
  | defaultRights (w : Word) : WindowEvent p (writeDefaultRights p w)
  | descSel (w : Word) : WindowEvent p (writeDescSel p w)
  | staging (f : Descriptor → Descriptor) : WindowEvent p (writeStaging p f)
  | load : WindowEvent p (loadDescriptor p)
  | commit : WindowEvent p (commitDescriptor p)
  | ptr (w : Word) : WindowEvent p (writePtr p w)
  | opnd (w : Word) : WindowEvent p (writeOpnd p w)
  | step (w : Word) : WindowEvent p (writeStep p w)
  | request (a : HostAccess) : WindowEvent p (requestStore p a)
  | outData (w : Word) : WindowEvent p (writeOutData p w)
  | send (q : PortId) (urgent hold : Bool) (tag : BitVec 8) : WindowEvent p (sendMessage p q urgent hold tag)
  | discard : WindowEvent p (discardStaging p)
  | inHead : WindowEvent p (readInHead p)
  | inData : WindowEvent p (readInData p)
  | pop : WindowEvent p (popMessage p)
  | flush : WindowEvent p (flushMessages p)
  | copySrc (w : Word) : WindowEvent p (writeCopySrc p w)
  | copyDst (w : Word) : WindowEvent p (writeCopyDst p w)
  | copyCount (w : Word) : WindowEvent p (writeCopyCount p w)
  | copyNotice (w : Word) : WindowEvent p (writeCopyNotice p w)
  | start : WindowEvent p (startJob p)
  | copyCancel : WindowEvent p (cancelJob p)
  | intCause (w : Word) : WindowEvent p (writeIntCause p w)
  | intMask (w : Word) : WindowEvent p (writeIntMask p w)
  | clearRevoked (ones : BitVec 32) : WindowEvent p (clearRevoked p ones)
  | faultPop : WindowEvent p (popFault p)
  | clearOverrun : WindowEvent p (clearOverrunFlag p)
  | leave : WindowEvent p (leavePort p)
  | detach (q : PortId) : WindowEvent p (detachCommand p q)

/-- What a command can answer on the state `s`: one constructor for the window cycles, and one for each event of the
part with the condition under which it is taken. `settle` stands around the events that can complete a cycle. -/
inductive Runs (s : State) : State → Prop
  | window (p : PortId) (c : BusCycle) : Runs s (settle (hostCycle p c (windowAccess p c) s))
  | nothing : Runs s s
  | noEvent : Runs s (settle s)
  | tick (h : s.nrst = false) : Runs s (tickAll s)
  | leaseExpiry (l : LockId) (h : s.nrst = false) : Runs s (settle (expireLease l s))
  | patienceExpiry (l : LockId) (p : PortId) (h : s.nrst = false) : Runs s (settle (expirePatience l p s))
  | rotationGrant (h : s.nrst = false) : Runs s (settle (grantNext s))
  | holdExpiry (q p : PortId) (h : s.nrst = false) : Runs s (settle (expireHold q p s))
  | sourceRead {j : Job} {js : List Job} {i : Nat} {t : State} (h : s.nrst = false) (hjobs : s.jobs = j :: js)
      (hword : s.copyWord = some ⟨i, .source⟩) (hnext : sourceHalf j i s = .next t) : Runs s t
  | destinationWrite {j : Job} {js : List Job} {i : Nat} {w : Word} {t : State} (h : s.nrst = false)
      (hjobs : s.jobs = j :: js) (hword : s.copyWord = some ⟨i, .destination w⟩)
      (hnext : destinationHalf j js i w s = .next t) : Runs s t
  | pinAssert (p : PortId) : Runs s (assertPin p s)
  | pinRelease (p : PortId) : Runs s (releasePin p s)
  | withdrawal (p : PortId) (h : TearingDown s p) (hw : (s.port p).attach.withdrawn = false) : Runs s (withdraw p s)
  | releaseEvent (p : PortId) (l : LockId) (h : TearingDown s p) (hw : (s.port p).attach.withdrawn = true) :
      Runs s (settle (releaseHeld p l s))
  | messageTeardown (p : PortId) (h : TearingDown s p) (hm : (s.port p).attach.messagesDown = false) :
      Runs s (settle (tearDownMessages p s))
  | copyTeardown (p : PortId) (h : TearingDown s p) : Runs s (tearDownCopy p s)
  | completion (p : PortId) (h : TearingDown s p) (hd : (s.port p).attach.allDown = true) : Runs s (complete p s)
  | deviceReset : Runs s (assertReset s)
  | resetRelease (a b : Bool) (h : s.nrst = true) : Runs s (releaseReset a b s)
  | cycleEnd (p : PortId) : Runs s (modBus p Bus.endCycle s)

/-- What a property of the part has to show for the cycles of the windows: that it is kept by every event of an attached
window, by the answers of a detached one, and by a cycle that waits or that meets a bus in reset. -/
structure WindowKeeps (P : State → Prop) : Prop where
  event : ∀ {p f s}, WindowEvent p f → Ready s p → P s → P (f (modBus p (fun _ => Bus.begin) s))
  detached : ∀ {p s} (c : BusCycle), ReadyDetached s p → P s → P (detachedCycle p c (modBus p (fun _ => Bus.begin) s))
  waits : ∀ {p s} (c : BusCycle), s.busInReset p = false → (s.port p).bus.phase ≠ .idle → P s →
    P (modBus p (fun b => { b with strobe := true, next := some c }) s)
  strobes : ∀ {p s}, s.busInReset p = true → P s → P (modBus p (fun b => { b with strobe := true }) s)

end Sys2Proof.Machine
end

section
/-! Every cycle of an attached window is a `WindowEvent`, every answer of a command is one of `Runs`, and what the cycles
of the windows keep, the cycles that `settle` takes keep too. -/

namespace Sys2Proof.Machine

variable {p q : PortId} {l : LockId} {s t u : State}

/-! ### The events of a window -/

theorem readRegister_event (r : Reg) : WindowEvent p (readRegister p r) := by
  cases r
  case data => exact .request .read
  case xchg => exact .request .xchg
  case fadd => exact .request .fadd
  case inHead => exact .inHead
  case inData => exact .inData
  all_goals exact .answer fun s => some (registerValue s p _)

theorem badValue_event (r : Reg) (w : Word) : WindowEvent p (badValue p r w) := .refuse .badValue (cycleAt r (.write w))

theorem writeLockCmd_event (w : Word) : WindowEvent p (writeLockCmd p w) := by
  unfold writeLockCmd
  split
  exacts [.take _, .wait _ _, .release _, .cancel _, .renew _, .force _, badValue_event _ w]

theorem writeDescCmd_event (w : Word) : WindowEvent p (writeDescCmd p w) := by
  unfold writeDescCmd
  split
  exacts [.load, .commit, badValue_event _ w]

theorem writeOutCmd_event (w : Word) : WindowEvent p (writeOutCmd p w) := by
  unfold writeOutCmd
  split
  exacts [.send _ _ _ _, .discard, badValue_event _ w]

theorem writeInCtrl_event (w : Word) : WindowEvent p (writeInCtrl p w) := by
  unfold writeInCtrl
  split
  exacts [.pop, .flush, badValue_event _ w]

theorem writeCopyCmd_event (w : Word) : WindowEvent p (writeCopyCmd p w) := by
  unfold writeCopyCmd
  split
  exacts [.start, .copyCancel, badValue_event _ w]

theorem writeFaultCtrl_event (w : Word) : WindowEvent p (writeFaultCtrl p w) := by
  unfold writeFaultCtrl
  split
  exacts [.faultPop, .clearOverrun, badValue_event _ w]

theorem writePortState_event (w : Word) : WindowEvent p (writePortState p w) := by
  unfold writePortState
  split
  exacts [.leave, .answer fun _ => none, badValue_event _ w]

theorem writePortCmd_event (w : Word) : WindowEvent p (writePortCmd p w) := by
  unfold writePortCmd
  split
  exacts [.detach _, .portCmdCode w]

theorem writeRegister_event (r : Reg) (w : Word) : WindowEvent p (writeRegister p r w) := by
  cases r
  case portState => exact writePortState_event w
  case intCause => exact .intCause w
  case intMask => exact .intMask w
  case faultCtrl => exact writeFaultCtrl_event w
  case ptr => exact .ptr w
  case step => exact .step w
  case opnd => exact .opnd w
  case data => exact .request (.write w)
  case lockSel => exact .lockSel w
  case lockCmd => exact writeLockCmd_event w
  case revokedLo => exact .clearRevoked (lowOnes w)
  case revokedHi => exact .clearRevoked (highOnes w)
  case lockCfg => exact .lockCfg w
  case descSel => exact .descSel w
  case descBase => exact .staging fun d => { d with base := w }
  case descAttr => exact .staging (withAttr w)
  case descRights => exact .staging fun d => { d with rights := byteField w }
  case descCmd => exact writeDescCmd_event w
  case outData => exact .outData w
  case outCmd => exact writeOutCmd_event w
  case inCtrl => exact writeInCtrl_event w
  case copySrc => exact .copySrc w
  case copyDst => exact .copyDst w
  case copyCount => exact .copyCount w
  case copyNotice => exact .copyNotice w
  case copyCmd => exact writeCopyCmd_event w
  case tick => exact .tick w
  case holdLimit => exact .holdLimit w
  case failWord => exact .failWord w
  case orphan => exact .orphan w
  case ranks => exact .ranks w
  case defaultRights => exact .defaultRights w
  case portCmd => exact writePortCmd_event w
  all_goals exact badValue_event _ w

/-- Every cycle of an attached window is one of these events (R204, R209, R210). -/
theorem windowAccess_event (p : PortId) (c : BusCycle) : WindowEvent p (windowAccess p c) := by
  unfold windowAccess
  split
  next r hreg =>
    cases c.op with
    | read => exact readRegister_event r
    | write w => exact writeRegister_event r w
  next hreg => exact .refuse .unassigned c

/-! ### The answers of a command -/

/-- A teardown event is taken exactly while its port's teardown is pending and the event is to come. -/
theorem teardown_taken {toCome : AttachRecord → Bool} (f : State → State) (h : TearingDown s p)
    (hc : toCome (s.port p).attach = true) : teardown p toCome f s = f s := by
  simp [teardown, h.nrst, h.detached, h.pending, hc]

theorem teardown_none {toCome : AttachRecord → Bool} (f : State → State)
    (h : ¬ TearingDown s p ∨ toCome (s.port p).attach = false) : teardown p toCome f s = s := by
  rw [teardown]
  refine if_neg fun hc => ?_
  simp only [Bool.and_eq_true, Bool.not_eq_true'] at hc
  obtain ⟨⟨⟨hn, ha⟩, hp⟩, hcome⟩ := hc
  rcases h with h | h
  · exact h ⟨hn, ha, hp⟩
  · exact absurd hcome (by simp [h])

theorem teardown_cases (p : PortId) (toCome : AttachRecord → Bool) (f : State → State) (s : State) :
    (TearingDown s p ∧ toCome (s.port p).attach = true ∧ teardown p toCome f s = f s) ∨ teardown p toCome f s = s := by
  by_cases h : TearingDown s p ∧ toCome (s.port p).attach = true
  · exact .inl ⟨h.1, h.2, teardown_taken f h.1 h.2⟩
  · refine .inr (teardown_none f ?_)
    by_cases ht : TearingDown s p
    · exact .inr (by simpa [ht] using h)
    · exact .inl ht

theorem runs_windowCommand {c : BusCycle} (h : windowCommand p c (windowAccess p c) s = .next t) : Runs s t := by
  cases h
  exact .window p c

/-- An event of the part that can complete a cycle: taken with nRST released, and none under nRST. -/
theorem runs_eventCommand {f : State → State} (hf : s.nrst = false → Runs s (settle (f s)))
    (h : eventCommand f s = .next t) : Runs s t := by
  cases h
  by_cases hn : s.nrst = true
  · simpa [whileRunning, hn] using Runs.noEvent
  · simpa [whileRunning, hn] using hf (by simpa using hn)

/-- Every answer of a command is one of `Runs`. -/
theorem exec_runs {i : Instr} (h : exec i s = .next t) : Runs s t := by
  cases hc : encodeCycle i with
  | some pc =>
    obtain ⟨p, c⟩ := pc
    rw [exec_window hc] at h
    exact runs_windowCommand h
  | none =>
    cases i <;> simp only [encodeCycle, reduceCtorEq] at hc
    case detachedWindowCycle p addr op => exact runs_windowCommand h
    case tickEvent =>
      cases h
      by_cases hn : s.nrst = true
      · simpa [whileRunning, hn] using Runs.nothing
      · simpa [whileRunning, hn] using Runs.tick (by simpa using hn)
    case leaseExpiry l => exact runs_eventCommand (.leaseExpiry l) h
    case patienceExpiry l p => exact runs_eventCommand (.patienceExpiry l p) h
    case rotationGrant => exact runs_eventCommand .rotationGrant h
    case holdExpiry q p => exact runs_eventCommand (.holdExpiry q p) h
    case sourceRead =>
      simp only [exec, execSourceRead] at h
      split at h
      · cases h; exact .nothing
      next hn =>
        split at h
        next j js i hjobs hword => exact .sourceRead (by simpa using (not_or.mp hn).1) hjobs hword h
        · cases h; exact .nothing
    case destinationWrite =>
      simp only [exec, execDestinationWrite] at h
      split at h
      · cases h; exact .nothing
      next hn =>
        split at h
        next j js i w hjobs hword => exact .destinationWrite (by simpa using (not_or.mp hn).1) hjobs hword h
        · cases h; exact .nothing
    case portResetAssert p => cases h; exact .pinAssert p
    case portResetRelease p => cases h; exact .pinRelease p
    case withdrawal p =>
      cases h
      rcases teardown_cases p (fun a => !a.withdrawn) (withdraw p) s with ⟨hd, hw, heq⟩ | heq <;> rw [heq]
      · exact .withdrawal p hd (by simpa using hw)
      · exact .nothing
    case releaseEvent p l =>
      cases h
      rcases teardown_cases p (fun a => a.withdrawn && a.toRelease.contains l) (releaseHeld p l) s with
        ⟨hd, hw, heq⟩ | heq <;> rw [heq]
      · exact .releaseEvent p l hd (Bool.and_eq_true_iff.mp hw).1
      · exact .noEvent
    case messageUnitTeardown p =>
      cases h
      rcases teardown_cases p (fun a => !a.messagesDown) (tearDownMessages p) s with ⟨hd, hm, heq⟩ | heq <;> rw [heq]
      · exact .messageTeardown p hd (by simpa using hm)
      · exact .noEvent
    case copyEngineTeardown p =>
      cases h
      rcases teardown_cases p (fun a => !a.copyDown) (tearDownCopy p) s with ⟨hd, -, heq⟩ | heq <;> rw [heq]
      · exact .copyTeardown p hd
      · exact .nothing
    case completionEvent p =>
      cases h
      rcases teardown_cases p AttachRecord.allDown (complete p) s with ⟨hd, ha, heq⟩ | heq <;> rw [heq]
      · exact .completion p hd ha
      · exact .nothing
    case deviceReset => cases h; exact .deviceReset
    case resetRelease a b =>
      cases h
      by_cases hn : s.nrst = true
      · exact .resetRelease a b hn
      · simpa [releaseReset, hn] using Runs.nothing
    case cycleEnd p => cases h; exact .cycleEnd p

/-- A step idles or answers as a command does on the state with the queue's rest. -/
theorem step_runs (h : step s = .next t) : t = s ∨ ∃ rest, Runs { s with pending := rest } t := by
  unfold step at h
  split at h
  next c rest hq => exact .inr ⟨rest, exec_runs h⟩
  next hq => cases h; exact .inl rfl

/-! ### The cycles that `settle` takes -/

theorem ready_or_detached (hr : s.busInReset p = false) (hi : (s.port p).bus.phase = .idle) :
    Ready s p ∨ ReadyDetached s p := by
  obtain ⟨hn, hp⟩ : s.nrst = false ∧ (s.port p).prst = false := by simpa [State.busInReset] using hr
  cases ha : (s.port p).attach.attached
  · exact .inr ⟨hn, hp, hi, ha⟩
  · exact .inl ⟨hn, hp, hi, ha⟩

section
variable {P : State → Prop} (hP : WindowKeeps P)
include hP

theorem WindowKeeps.hostCycle (c : BusCycle) (h : P s) : P (hostCycle p c (windowAccess p c) s) := by
  cases hr : s.busInReset p with
  | true => rw [hostCycle_inReset p s hr]; exact hP.strobes hr h
  | false =>
    by_cases hi : (s.port p).bus.phase = .idle
    · rcases ready_or_detached hr hi with hready | hready
      · rw [hostCycle_ready p s hready]; exact hP.event (windowAccess_event p c) hready h
      · rw [hostCycle_detached p s hready]; exact hP.detached c hready h
    · rw [hostCycle_open p s hr hi]; exact hP.waits c hr hi h

theorem WindowKeeps.takeWaiting (hd : s.cycleDue p = true) (h : P s) : P (takeWaiting p s) := by
  simp only [State.cycleDue, Bool.and_eq_true, Bool.not_eq_true', beq_iff_eq] at hd
  obtain ⟨⟨⟨hr, -⟩, hi⟩, hnext⟩ := hd
  obtain ⟨c, hc⟩ := Option.isSome_iff_exists.mp hnext
  rcases ready_or_detached hr hi with hready | hready
  · rw [takeWaiting_attached p s c hc hready.attached]; exact hP.event (windowAccess_event p c) hready h
  · rw [takeWaiting_detached p s c hc hready.detached]; exact hP.detached c hready h

theorem WindowKeeps.settleWithin (n : Nat) : ∀ s, P s → P (settleWithin n s) := by
  induction n with
  | zero => exact fun s h => h
  | succ n ih =>
    intro s h
    unfold Machine.settleWithin
    split
    next p hp => exact ih _ (hP.takeWaiting (List.find?_some hp) h)
    next => exact h

theorem WindowKeeps.settle (h : P s) : P (settle s) := hP.settleWithin 4 s h

end

end Sys2Proof.Machine
end

section
/-! The invariants that hold record by record: the store's canonical form, REVOKED shown, legal configuration values,
bounded fault queues, ordered inbound queues, the job queue, and that a cycle waits under its host's strobe outside
reset. `Kept s t` says that `t` breaks none of them when `s` does not; it is reflexive and transitive, every update of a
record has one lemma, and every operation of the part keeps them. -/

namespace Sys2Proof.Machine

variable {p q : PortId} {l : LockId} {s t u : State} {r r' r'' : PortRecord}

/-! ### Records -/

/-- R171 at one port. -/
def PortRecord.RevokedShown (r : PortRecord) : Prop :=
  r.lock.revoked ≠ 0 → r.intr.causes.getLsbD (causeIndex .revoked) = true

/-- R120 at one inbound queue. -/
structure MessagePortRecord.InOrder (m : MessagePortRecord) : Prop where
  ordered : (if m.opened then m.queue.tail else m.queue).Pairwise fun a b => a.cls = .normal → b.cls = .normal
  openedFront : m.opened = true → m.queue ≠ []

theorem queuesOrdered_iff : QueuesOrdered s ↔ ∀ q, (s.port q).msg.InOrder :=
  ⟨fun h q => ⟨h.ordered q, h.openedFront q⟩, fun h => ⟨fun q => (h q).ordered, fun q => (h q).openedFront⟩⟩

/-- What the new records of a port must not break. -/
structure PortFormKept (r r' : PortRecord) : Prop where
  revoked : r.RevokedShown → r'.RevokedShown
  faults : r.intr.faults.length ≤ 4 → r'.intr.faults.length ≤ 4
  queue : r.msg.InOrder → r'.msg.InOrder

/-- The same, and no cycle of the port that did not wait before waits now. -/
structure PortKept (r r' : PortRecord) : Prop extends PortFormKept r r' where
  prst : r'.prst = r.prst
  next : r'.bus.next = none ∨ (r'.bus.next = r.bus.next ∧ r'.bus.strobe = r.bus.strobe)

theorem PortFormKept.trans (h : PortFormKept r r') (h' : PortFormKept r' r'') : PortFormKept r r'' :=
  ⟨h'.revoked ∘ h.revoked, h'.faults ∘ h.faults, h'.queue ∘ h.queue⟩

theorem PortKept.trans (h : PortKept r r') (h' : PortKept r' r'') : PortKept r r'' where
  toPortFormKept := h.toPortFormKept.trans h'.toPortFormKept
  prst := h'.prst.trans h.prst
  next := by
    rcases h'.next with hn | ⟨hn, hs⟩
    · exact .inl hn
    · rcases h.next with hn' | ⟨hn', hs'⟩
      · exact .inl (hn.trans hn')
      · exact .inr ⟨hn.trans hn', hs.trans hs'⟩

/-- A change of a port's records outside of its causes, its revoked set, its messages and its bus. -/
theorem PortFormKept.of_eq (hl : r'.lock.revoked = r.lock.revoked) (hi : r'.intr = r.intr) (hm : r'.msg = r.msg) :
    PortFormKept r r' where
  revoked h := by rwa [PortRecord.RevokedShown, hl, hi]
  faults h := by rwa [hi]
  queue h := by rwa [hm]

theorem PortKept.of_eq (hl : r'.lock.revoked = r.lock.revoked) (hi : r'.intr = r.intr) (hm : r'.msg = r.msg)
    (hb : r'.bus = r.bus) (hp : r'.prst = r.prst) : PortKept r r' where
  toPortFormKept := .of_eq hl hi hm
  prst := hp
  next := .inr (by rw [hb]; exact ⟨rfl, rfl⟩)

theorem PortKept.refl (r : PortRecord) : PortKept r r := .of_eq rfl rfl rfl rfl rfl

/-- A change of the interrupt record alone: REVOKED may go only with the revoked set, and no queue passes four. -/
theorem PortKept.intr {i : InterruptRecord}
    (hc : r.lock.revoked ≠ 0 → r.intr.causes.getLsbD (causeIndex .revoked) = true →
      i.causes.getLsbD (causeIndex .revoked) = true)
    (hf : r.intr.faults.length ≤ 4 → i.faults.length ≤ 4) : PortKept r { r with intr := i } where
  revoked h hr := hc hr (h hr)
  faults := hf
  queue := id
  prst := rfl
  next := .inr ⟨rfl, rfl⟩

/-- A change of the message records alone. -/
theorem PortKept.msg {m : MessagePortRecord} (hq : r.msg.InOrder → m.InOrder) : PortKept r { r with msg := m } where
  revoked := id
  faults := id
  queue := hq
  prst := rfl
  next := .inr ⟨rfl, rfl⟩

/-- A change of the bus alone. -/
theorem PortKept.bus {b : Bus} (hb : b.next = none ∨ (b.next = r.bus.next ∧ b.strobe = r.bus.strobe)) :
    PortKept r { r with bus := b } where
  revoked := id
  faults := id
  queue := id
  prst := rfl
  next := hb

/-! ### States -/

/-- What a change of the state must not break, bar the cycles that wait. -/
structure FormKept (s t : State) : Prop where
  store : StoreCanonical s → StoreCanonical t
  ports : ∀ p, PortFormKept (s.port p) (t.port p)
  config : ConfigLegal s → ConfigLegal t
  jobs : JobsOk s → JobsOk t

/-- What a change of the state by an operation of the part must not break; nRST and the pins are not its to change. -/
structure Kept (s t : State) : Prop where
  store : StoreCanonical s → StoreCanonical t
  ports : ∀ p, PortKept (s.port p) (t.port p)
  config : ConfigLegal s → ConfigLegal t
  jobs : JobsOk s → JobsOk t
  nrst : t.nrst = s.nrst

theorem Kept.form (h : Kept s t) : FormKept s t := ⟨h.store, fun p => (h.ports p).toPortFormKept, h.config, h.jobs⟩

theorem Kept.refl (s : State) : Kept s s := ⟨id, fun _ => .refl _, id, id, rfl⟩

theorem Kept.trans (h : Kept s t) (h' : Kept t u) : Kept s u where
  store := h'.store ∘ h.store
  ports p := (h.ports p).trans (h'.ports p)
  config := h'.config ∘ h.config
  jobs := h'.jobs ∘ h.jobs
  nrst := h'.nrst.trans h.nrst

theorem FormKept.trans (h : FormKept s t) (h' : FormKept t u) : FormKept s u where
  store := h'.store ∘ h.store
  ports p := (h.ports p).trans (h'.ports p)
  config := h'.config ∘ h.config
  jobs := h'.jobs ∘ h.jobs

theorem ConfigLegal.congr (ht : t.tick = s.tick) (hh : t.holdLimit = s.holdLimit) (hr : t.defaultRights = s.defaultRights)
    (hd : t.descriptors = s.descriptors) (h : ConfigLegal s) : ConfigLegal t where
  tickLow := ht ▸ h.tickLow
  tickHigh := ht ▸ h.tickHigh
  holdLimit := hh ▸ h.holdLimit
  defaultRights := hr ▸ h.defaultRights
  descriptors d := by simpa [State.desc, hd] using h.descriptors d

theorem JobsOk.congr (hj : t.jobs = s.jobs) (hw : t.copyWord = s.copyWord) (h : JobsOk s) : JobsOk t where
  onePerPort := hj ▸ h.onePerPort
  headRuns := hj ▸ h.headRuns
  inStore := hj ▸ h.inStore
  wordPresent := hj ▸ hw ▸ h.wordPresent
  wordInJob := hj ▸ hw ▸ h.wordInJob

theorem portFormKept_setPort (h : PortFormKept (s.port p) r) (q : PortId) :
    PortFormKept (s.port q) ((setPort p r s).port q) := by
  by_cases hq : q = p
  · subst hq; rwa [port_setPort_self]
  · rw [port_setPort_ne p q s r hq]; exact (PortKept.refl _).toPortFormKept

theorem formKept_setPort (h : PortFormKept (s.port p) r) : FormKept s (setPort p r s) where
  store := id
  ports := portFormKept_setPort h
  config := .congr rfl rfl rfl rfl
  jobs := .congr rfl rfl

theorem kept_setPort (h : PortKept (s.port p) r) : Kept s (setPort p r s) where
  store := id
  ports q := by
    by_cases hq : q = p
    · subst hq; rwa [port_setPort_self]
    · rw [port_setPort_ne p q s r hq]; exact .refl _
  config := .congr rfl rfl rfl rfl
  jobs := .congr rfl rfl
  nrst := rfl

/-! ### Updates of one group of a port's records -/

theorem kept_modEngine (f : Engine → Engine) : Kept s (modEngine p f s) := kept_setPort (.of_eq rfl rfl rfl rfl rfl)
theorem kept_modRegion (f : RegionPortRecord → RegionPortRecord) : Kept s (modRegion p f s) :=
  kept_setPort (.of_eq rfl rfl rfl rfl rfl)
theorem kept_modCopy (f : CopyPortRecord → CopyPortRecord) : Kept s (modCopy p f s) :=
  kept_setPort (.of_eq rfl rfl rfl rfl rfl)
theorem kept_modAttach (f : AttachRecord → AttachRecord) : Kept s (modAttach p f s) :=
  kept_setPort (.of_eq rfl rfl rfl rfl rfl)
theorem kept_setHeld (h : Option HeldAccess) : Kept s (setHeld p h s) := kept_setPort (.of_eq rfl rfl rfl rfl rfl)

theorem kept_modLockPort {f : LockPortRecord → LockPortRecord}
    (hf : (f (s.port p).lock).revoked = (s.port p).lock.revoked) : Kept s (modLockPort p f s) :=
  kept_setPort (.of_eq hf rfl rfl rfl rfl)

theorem kept_modMsg {f : MessagePortRecord → MessagePortRecord}
    (hf : (s.port p).msg.InOrder → (f (s.port p).msg).InOrder) : Kept s (modMsg p f s) :=
  kept_setPort (.msg hf)

/-- A change of message records other than the inbound queue and its marker. -/
theorem kept_modMsg_of_eq {f : MessagePortRecord → MessagePortRecord}
    (hq : (f (s.port p).msg).queue = (s.port p).msg.queue) (ho : (f (s.port p).msg).opened = (s.port p).msg.opened) :
    Kept s (modMsg p f s) :=
  kept_modMsg fun h => ⟨by rw [hq, ho]; exact h.ordered, by rw [hq, ho]; exact h.openedFront⟩

theorem kept_modIntr {f : InterruptRecord → InterruptRecord}
    (hc : (s.port p).lock.revoked ≠ 0 → (s.port p).intr.causes.getLsbD (causeIndex .revoked) = true →
      (f (s.port p).intr).causes.getLsbD (causeIndex .revoked) = true)
    (hf : (s.port p).intr.faults.length ≤ 4 → (f (s.port p).intr).faults.length ≤ 4) : Kept s (modIntr p f s) :=
  kept_setPort (.intr hc hf)

theorem kept_modBus {f : Bus → Bus} (hf : (f (s.port p).bus).next = none ∨
    ((f (s.port p).bus).next = (s.port p).bus.next ∧ (f (s.port p).bus).strobe = (s.port p).bus.strobe)) :
    Kept s (modBus p f s) :=
  kept_setPort (.bus hf)

theorem kept_begin : Kept s (modBus p (fun _ => Bus.begin) s) := kept_modBus (.inl rfl)

theorem kept_completeCycle (data : Option Word) (err : Bool) : Kept s (completeCycle p data err s) :=
  kept_modBus ((next_complete (s.port p).bus data err).imp id fun h => ⟨h, strobe_complete _ _ _⟩)

theorem kept_done (data : Option Word) : Kept s (done p data s) := kept_completeCycle data false

/-! ### Causes and faults -/

theorem getLsbD_raised {i : InterruptRecord} {c : Cause} {n : Nat} (h : i.causes.getLsbD n = true) :
    (i.causes ||| causeBit c).getLsbD n = true := by
  simp [h]

theorem kept_setCause (c : Cause) : Kept s (setCause p c s) :=
  kept_setPort (.intr (fun _ h => getLsbD_raised h) id)

theorem length_offered_le {i : InterruptRecord} (f : FaultRecord) (h : i.faults.length ≤ 4) :
    (i.offered f).faults.length ≤ 4 := by
  unfold InterruptRecord.offered
  split
  · simp; omega
  · exact h

theorem kept_offerFault (f : FaultRecord) : Kept s (offerFault p f s) := by
  rw [offerFault_eq]
  exact kept_setPort (.intr (fun _ h => getLsbD_raised h) (length_offered_le f))

theorem kept_refuseCycle (k : FaultKind) (c : BusCycle) (d : Option DescId) (m : Option LockId) :
    Kept s (refuseCycle p k c d m s) :=
  (kept_offerFault _).trans (kept_completeCycle _ _)

theorem kept_badValue (r : Reg) (w : Word) : Kept s (badValue p r w s) := kept_refuseCycle _ _ _ _

/-- A write of a configuration register keeps what its event at the configuration port keeps. -/
theorem kept_configWrite {r : Reg} {w : Word} {body : State → State} (h : Kept s (body s)) :
    Kept s (configWrite p r w body s) := by
  unfold configWrite
  split
  · exact kept_refuseCycle _ _ _ _
  · exact h

theorem foldl_kept {α : Type} {f : State → α → State} (h : ∀ s a, Kept s (f s a)) (as : List α) :
    ∀ s, Kept s (as.foldl f s) := by
  induction as with
  | nil => exact .refl
  | cons a as ih => exact fun s => (h s a).trans (ih _)

theorem kept_peerChange : Kept s (peerChange p s) := by
  refine foldl_kept (fun s q => ?_) allPorts s
  split
  · exact kept_setCause _
  · exact .refl s

/-! ### Locks -/

theorem kept_setLock (k : LockRecord) : Kept s (setLock l k s) where
  store := id
  ports _ := .refl _
  config := .congr rfl rfl rfl rfl
  jobs := .congr rfl rfl
  nrst := rfl

theorem kept_grantLock : Kept s (grantLock l p s) := kept_setLock _

theorem kept_writeRequest (x : RequestRecord) : Kept s (writeRequest p x s) := kept_modLockPort rfl

theorem kept_removeWaiter : Kept s (removeWaiter l p s) := kept_setLock _

theorem kept_enterWait (k : WaitKind) (n : Ticks) : Kept s (enterWait l p k n s) :=
  (kept_setLock _).trans (kept_writeRequest _)

theorem kept_answerLock (o : LockOutcome) : Kept s (answerLock p o l s) :=
  (kept_modLockPort rfl).trans (kept_done _)

/-! ### Host accesses -/

theorem kept_putWord {a w : Word} (ha : a.toNat < Config.storeWords) : Kept s (putWord a w s) where
  store h := putWord_wf s h a w ha
  ports _ := .refl _
  config := .congr rfl rfl rfl rfl
  jobs := .congr rfl rfl
  nrst := rfl

/-- A permitted access and one that only a guard keeps back are at a backed address (R64, Table 3-5). -/
theorem backed_of_check {x : AccessType} {a : Word} {v : Verdict} (h : s.check p x a = v) (hv : v ≠ .noStore) :
    a.toNat < Config.storeWords := by
  by_contra hlt
  exact hv (h ▸ by simp [State.check, Nat.le_of_not_lt hlt])

theorem kept_completeAccess {a : HostAccess} {addr : Word} (ha : addr.toNat < Config.storeWords) :
    Kept s (completeAccess p a addr s) := by
  have hstore : Kept s (a.toStore (s.port p).engine.opnd (s.word addr) addr s) := by
    cases a with
    | read => exact .refl s
    | write w => exact kept_putWord ha
    | xchg => exact kept_putWord ha
    | fadd => exact kept_putWord ha
  exact (hstore.trans (kept_modEngine _)).trans (kept_completeCycle _ _)

theorem kept_refuseAccess (a : HostAccess) (addr : Word) (k : FaultKind) (d : Option DescId) (m : Option LockId) :
    Kept s (refuseAccess p a addr k d m s) :=
  (kept_offerFault _).trans (kept_completeCycle _ _)

theorem kept_recheckHeld : Kept s (recheckHeld p s) := by
  unfold recheckHeld
  split
  · exact .refl s
  next h hheld =>
    dsimp only
    split
    next hc => exact (kept_setHeld none).trans (kept_completeAccess (backed_of_check hc nofun))
    all_goals exact (kept_setHeld none).trans (kept_refuseAccess _ _ _ _ _)

theorem kept_handover : Kept s (handover l s) := by
  cases hw : (s.lock l).waiters with
  | nil => rw [handover_empty l s hw]; exact kept_setLock _
  | cons w ws =>
    have hrecheck : ∀ t, Kept t ((if w.kind = .claim then recheckHeld w.port else id) t) := by
      intro t
      split
      · exact kept_recheckHeld
      · exact .refl t
    rw [handover_head l s w ws hw]
    exact (((kept_setLock _).trans (kept_writeRequest _)).trans (kept_setCause _)).trans (hrecheck _)

/-- A revocation marks the lock and sets REVOKED in one change. -/
theorem kept_revoke {h : PortId} : Kept s (revoke l h s) := by
  rw [revoke_eq]
  refine Kept.trans ?_ kept_handover
  rw [modLockPort_eq, setCause_eq, setPort_setPort, port_setPort_self]
  exact kept_setPort
    { revoked := fun _ _ => by simp [causeBit, causeIndex]
      faults := id, queue := id, prst := rfl, next := .inr ⟨rfl, rfl⟩ }

/-! ### Lock commands and expiries -/

theorem kept_lockTake : Kept s (lockTake p l s) := by
  unfold lockTake
  split
  · exact kept_answerLock _
  · exact kept_answerLock _
  · split
    · exact kept_answerLock _
    · exact kept_grantLock.trans (kept_answerLock _)

theorem kept_lockWait {n : Ticks} : Kept s (lockWait p l n s) := by
  unfold lockWait
  split_ifs
  · exact kept_answerLock _
  · exact kept_answerLock _
  · exact kept_answerLock _
  · exact ((kept_grantLock.trans (kept_writeRequest _)).trans (kept_setCause _)).trans (kept_answerLock _)
  · exact (kept_enterWait _ _).trans (kept_answerLock _)

theorem kept_lockRelease : Kept s (lockRelease p l s) := by
  unfold lockRelease
  split
  · exact kept_handover.trans (kept_answerLock _)
  · exact kept_answerLock _

theorem kept_lockCancel : Kept s (lockCancel p l s) := by
  unfold lockCancel
  split
  · exact ((kept_removeWaiter.trans (kept_writeRequest _)).trans (kept_setCause _)).trans (kept_answerLock _)
  · exact kept_answerLock _

theorem kept_lockRenew : Kept s (lockRenew p l s) := by
  unfold lockRenew
  split_ifs
  · exact kept_answerLock _
  · exact (kept_setLock _).trans (kept_answerLock _)
  · exact kept_answerLock _

theorem kept_lockForce : Kept s (lockForce p l s) := by
  unfold lockForce
  split
  · exact kept_answerLock _
  · split
    · split
      · exact kept_handover.trans (kept_answerLock _)
      · exact kept_revoke.trans (kept_answerLock _)
    · exact kept_handover.trans (kept_answerLock _)
    · exact kept_answerLock _

theorem kept_writeLockSel {w : Word} : Kept s (writeLockSel p w s) := by
  unfold writeLockSel
  split
  · exact kept_badValue _ _
  · exact (kept_modLockPort rfl).trans (kept_done _)

theorem kept_writeLockCfg {w : Word} : Kept s (writeLockCfg p w s) := by
  refine kept_configWrite ?_
  dsimp only
  split
  · exact kept_refuseCycle _ _ _ _
  · exact (kept_setLock _).trans (kept_done _)

theorem kept_expireLease : Kept s (expireLease l s) := by
  unfold expireLease
  split
  · exact kept_revoke
  · exact .refl s

theorem kept_endHeldExpired : Kept s (endHeldExpired p s) := by
  unfold endHeldExpired
  split
  · exact .refl s
  · exact (kept_setHeld none).trans (kept_refuseAccess _ _ _ _ _)

theorem kept_expirePatience : Kept s (expirePatience l p s) := by
  unfold expirePatience
  split
  · exact .refl s
  next w hw =>
    split
    · have hout : Kept s (s |> removeWaiter l p |> writeRequest p (.timedOut l w.kind) |> setCause p .lockOutcome) :=
        (kept_removeWaiter.trans (kept_writeRequest _)).trans (kept_setCause _)
      dsimp only
      split
      · exact hout.trans kept_endHeldExpired
      · exact hout
    · exact .refl s

/-! ### Configuration and the region table -/

theorem kept_with_tick {w : Word} (h1 : 1 ≤ w.toNat) (h2 : w.toNat ≤ Config.tickMax) :
    Kept s { s with tick := w } where
  store := id
  ports _ := .refl _
  config h := ⟨h1, h2, h.holdLimit, h.defaultRights, h.descriptors⟩
  jobs := .congr rfl rfl
  nrst := rfl

theorem kept_with_holdLimit {n : Ticks} (hn : n ≠ 0) : Kept s { s with holdLimit := n } where
  store := id
  ports _ := .refl _
  config h := ⟨h.tickLow, h.tickHigh, hn, h.defaultRights, h.descriptors⟩
  jobs := .congr rfl rfl
  nrst := rfl

theorem kept_with_defaultRights {b : BitVec 8} (hb : rightsLegal b = true) : Kept s { s with defaultRights := b } where
  store := id
  ports _ := .refl _
  config h := ⟨h.tickLow, h.tickHigh, h.holdLimit, hb, h.descriptors⟩
  jobs := .congr rfl rfl
  nrst := rfl

theorem kept_setDesc {d : DescId} {e : Descriptor} (he : e.valid = true) : Kept s (setDesc d e s) where
  store := id
  ports _ := .refl _
  config h := by
    refine ⟨h.tickLow, h.tickHigh, h.holdLimit, h.defaultRights, fun x => ?_⟩
    rw [desc_setDesc]
    split
    · exact he
    · exact h.descriptors x
  jobs := .congr rfl rfl
  nrst := rfl

/-- An update of a field that none of these invariants speaks of. -/
theorem kept_of_eq (hp : t.ports = s.ports) (hst : t.store = s.store) (ht : t.tick = s.tick)
    (hh : t.holdLimit = s.holdLimit) (hr : t.defaultRights = s.defaultRights) (hd : t.descriptors = s.descriptors)
    (hj : t.jobs = s.jobs) (hw : t.copyWord = s.copyWord) (hn : t.nrst = s.nrst) : Kept s t where
  store h := by rwa [StoreCanonical, hst]
  ports p := by rw [State.port, State.port, hp]; exact .refl _
  config := .congr ht hh hr hd
  jobs := .congr hj hw
  nrst := hn

theorem kept_with_failWord {w : Word} : Kept s { s with failWord := w } :=
  kept_of_eq rfl rfl rfl rfl rfl rfl rfl rfl rfl
theorem kept_with_orphan {o : OrphanPolicy} : Kept s { s with orphan := o } :=
  kept_of_eq rfl rfl rfl rfl rfl rfl rfl rfl rfl
theorem kept_with_ranks {b : BitVec 8} : Kept s { s with ranks := b } :=
  kept_of_eq rfl rfl rfl rfl rfl rfl rfl rfl rfl
theorem kept_with_rotation {x : Requester} : Kept s { s with rotation := x } :=
  kept_of_eq rfl rfl rfl rfl rfl rfl rfl rfl rfl

theorem kept_writeTick {w : Word} : Kept s (writeTick p w s) := by
  refine kept_configWrite ?_
  split
  next h => exact (kept_with_tick h.1 h.2).trans (kept_done _)
  next => exact kept_badValue _ _

/-- The eight bits that HOLD_LIMIT takes from a word of 1 to 255 are not zero (R47). -/
theorem extractLsb'_ne_zero {w : Word} (h1 : 1 ≤ w.toNat) (h2 : w.toNat ≤ 255) : w.extractLsb' 0 8 ≠ 0 := by
  intro h0
  have := congrArg BitVec.toNat h0
  rw [toNat_extractLsb'_eq_div_mod] at this
  simp at this
  omega

theorem kept_writeHoldLimit {w : Word} : Kept s (writeHoldLimit p w s) := by
  refine kept_configWrite ?_
  split
  next h => exact (kept_with_holdLimit (extractLsb'_ne_zero h.1 h.2)).trans (kept_done _)
  next => exact kept_badValue _ _

theorem kept_writeFailWord {w : Word} : Kept s (writeFailWord p w s) :=
  kept_configWrite (kept_with_failWord.trans (kept_done _))

theorem kept_writeOrphan {w : Word} : Kept s (writeOrphan p w s) :=
  kept_configWrite (kept_with_orphan.trans (kept_done _))

theorem kept_writeRanks {w : Word} : Kept s (writeRanks p w s) :=
  kept_configWrite (kept_with_ranks.trans (kept_done _))

theorem kept_writeDefaultRights {w : Word} : Kept s (writeDefaultRights p w s) := by
  refine kept_configWrite ?_
  split
  next h => exact (kept_with_defaultRights h).trans (kept_done _)
  next => exact kept_badValue _ _

theorem kept_writeDescSel {w : Word} : Kept s (writeDescSel p w s) := by
  unfold writeDescSel
  split
  · exact kept_refuseCycle _ _ _ _
  · exact (kept_modRegion _).trans (kept_done _)

theorem kept_writeStaging (f : Descriptor → Descriptor) : Kept s (writeStaging p f s) :=
  (kept_modRegion _).trans (kept_done _)

theorem kept_loadDescriptor : Kept s (loadDescriptor p s) := (kept_modRegion _).trans (kept_done _)

theorem kept_commitDescriptor : Kept s (commitDescriptor p s) := by
  unfold commitDescriptor
  dsimp only
  split
  · exact kept_refuseCycle _ _ _ _
  · split
    next h => exact (kept_setDesc h).trans (kept_done _)
    next => exact kept_refuseCycle _ _ _ _

/-! ### The store access path -/

theorem kept_writePtr {w : Word} : Kept s (writePtr p w s) := (kept_modEngine _).trans (kept_done _)
theorem kept_writeOpnd {w : Word} : Kept s (writeOpnd p w s) := (kept_modEngine _).trans (kept_done _)

theorem kept_writeStep {w : Word} : Kept s (writeStep p w s) := by
  unfold writeStep
  split
  · exact (kept_modEngine _).trans (kept_done _)
  · exact kept_badValue _ _

theorem kept_requestStore (a : HostAccess) : Kept s (requestStore p a s) :=
  (kept_modEngine _).trans (kept_modBus (.inr ⟨rfl, rfl⟩))

theorem kept_holdAccess (a : HostAccess) (addr : Word) (d : DescId) : Kept s (holdAccess p a addr d l s) :=
  ((kept_enterWait _ _).trans (kept_setHeld _)).trans (kept_modBus (.inr ⟨rfl, rfl⟩))

theorem kept_claim {a : HostAccess} {addr : Word} {d : DescId} (ha : addr.toNat < Config.storeWords) :
    Kept s (claim p a addr d l s) := by
  unfold claim
  split_ifs
  · exact kept_refuseAccess _ _ _ _ _
  · exact kept_refuseAccess _ _ _ _ _
  · exact ((kept_grantLock.trans (kept_writeRequest _)).trans (kept_setCause _)).trans (kept_completeAccess ha)
  · exact kept_holdAccess _ _ _

theorem kept_serveAccess (a : HostAccess) : Kept s (serveAccess p a s) := by
  unfold serveAccess
  dsimp only
  split
  next hc => exact kept_completeAccess (backed_of_check hc nofun)
  · exact kept_refuseAccess _ _ _ _ _
  · exact kept_refuseAccess _ _ _ _ _
  next hc => exact kept_claim (backed_of_check hc nofun)
  · exact kept_refuseAccess _ _ _ _ _

theorem kept_grantNext : Kept s (grantNext s) := by
  unfold grantNext
  split
  · unfold grantPort
    split
    · exact .refl s
    · exact (kept_with_rotation.trans (kept_modEngine _)).trans (kept_serveAccess _)
  · exact .refl s

/-! ### The message unit -/

/-- The order of R120: no URGENT message stands behind a NORMAL one. -/
abbrev UrgentFirst (ms : List Message) : Prop := ms.Pairwise fun a b => a.cls = .normal → b.cls = .normal

theorem urgentFirst_concat_normal {m : Message} {ms : List Message} (hm : m.cls = .normal) (h : UrgentFirst ms) :
    UrgentFirst (ms ++ [m]) := by
  refine List.pairwise_append.mpr ⟨h, List.pairwise_singleton _ _, fun a _ b hb _ => ?_⟩
  rwa [List.mem_singleton.mp hb]

theorem urgentFirst_insertUrgent {m : Message} {ms : List Message} (hm : m.cls = .urgent) (h : UrgentFirst ms) :
    UrgentFirst (insertUrgent m ms) := by
  have hfront : ∀ a ∈ ms.takeWhile (fun x => decide (x.cls = .urgent)), a.cls ≠ .normal := by
    intro a ha
    have : a.cls = .urgent := by simpa using List.mem_takeWhile_imp ha
    simp [this]
  refine List.pairwise_append.mpr ⟨h.sublist (List.takeWhile_sublist _), ?_, fun a ha b _ hn => absurd hn (hfront a ha)⟩
  exact List.pairwise_cons.mpr ⟨fun b _ hn => by simp [hm] at hn, h.sublist (List.dropWhile_sublist _)⟩

/-- An admission keeps the order, the opened front message set aside (R121). -/
theorem MessagePortRecord.InOrder.insert {r : MessagePortRecord} (h : r.InOrder) (m : Message) :
    ({ r with queue := insertMessage r.opened m r.queue } : MessagePortRecord).InOrder := by
  obtain ⟨hord, hfront⟩ := h
  cases ho : r.opened with
  | false =>
    simp only [ho, Bool.false_eq_true, if_false] at hord
    refine ⟨?_, by simp⟩
    simp only [Bool.false_eq_true, if_false]
    cases hm : m.cls with
    | normal => simpa [insertMessage, hm] using urgentFirst_concat_normal hm hord
    | urgent => simpa [insertMessage, hm] using urgentFirst_insertUrgent hm hord
  | true =>
    obtain ⟨x, xs, hq⟩ := List.exists_cons_of_ne_nil (hfront ho)
    simp only [ho, hq, if_true, List.tail_cons] at hord
    cases hm : m.cls with
    | normal => exact ⟨by simpa [insertMessage, hm, ho, hq] using urgentFirst_concat_normal hm hord,
        by simp [insertMessage, hm, hq]⟩
    | urgent => exact ⟨by simpa [insertMessage, hm, ho, hq] using urgentFirst_insertUrgent hm hord,
        by simp [insertMessage, hm, hq]⟩

theorem MessagePortRecord.InOrder.tail {r : MessagePortRecord} (h : r.InOrder) : UrgentFirst r.queue.tail := by
  obtain ⟨hord, -⟩ := h
  split at hord
  · exact hord
  · exact hord.sublist (List.tail_sublist _)

/-- A queue without an opened message is ordered when its messages are. -/
theorem inOrder_closed {r : MessagePortRecord} (ho : r.opened = false) (h : UrgentFirst r.queue) : r.InOrder :=
  ⟨by simpa [ho] using h, by simp [ho]⟩

/-- A queue whose front message is opened is ordered when the messages behind it are. -/
theorem inOrder_opened {r : MessagePortRecord} (ho : r.opened = true) (hq : r.queue ≠ []) (h : UrgentFirst r.queue.tail) :
    r.InOrder :=
  ⟨by simpa [ho] using h, fun _ => hq⟩

theorem kept_admitMessage (m : Message) : Kept s (admitMessage q m s) :=
  (kept_modMsg fun h => h.insert m).trans (kept_setCause _)

theorem kept_setSendResult (o : SendOutcome) : Kept s (setSendResult p o q s) := kept_modMsg_of_eq rfl rfl

theorem kept_finishSend : Kept s (finishSend p q s) := by
  unfold finishSend
  split
  · exact kept_done _
  · exact .refl s

theorem kept_admitHeld (e : HoldEntry) : Kept s (admitHeld q e s) :=
  (((kept_admitMessage _).trans (kept_modMsg_of_eq rfl rfl)).trans (kept_setSendResult _)).trans kept_finishSend

theorem kept_drainEntries (es : List HoldEntry) : ∀ s, Kept s (drainEntries q es s) := by
  induction es with
  | nil => exact fun s => kept_modMsg_of_eq rfl rfl
  | cons e es ih =>
    intro s
    unfold drainEntries
    split
    · exact ((kept_modMsg_of_eq rfl rfl).trans (kept_admitHeld e)).trans (ih _)
    · exact kept_modMsg_of_eq rfl rfl

theorem kept_drain : Kept s (drain q s) := kept_drainEntries _ s

theorem kept_removeEntry : Kept s (removeEntry q p s) := by
  have hout : Kept s (modMsg q (fun r => { r with holdList := dropEntry p (s.port q).msg.holdList }) s) :=
    kept_modMsg_of_eq rfl rfl
  unfold removeEntry
  dsimp only
  split
  · exact hout
  · split
    · exact hout.trans kept_drain
    · exact hout

theorem kept_writeOutData {w : Word} : Kept s (writeOutData p w s) := by
  unfold writeOutData
  split
  · exact (kept_modMsg_of_eq rfl rfl).trans (kept_done _)
  · exact kept_refuseCycle _ _ _ _

theorem kept_answerSend (o : SendOutcome) : Kept s (answerSend p o q s) :=
  (kept_setSendResult _).trans (kept_done _)

theorem kept_holdSend {cls : MsgClass} {tag : BitVec 8} : Kept s (holdSend p q cls tag s) := by
  unfold holdSend
  exact (kept_modMsg_of_eq rfl rfl).trans (kept_modBus (.inr ⟨rfl, rfl⟩))

theorem kept_sendMessage {urgent hold : Bool} {tag : BitVec 8} : Kept s (sendMessage p q urgent hold tag s) := by
  unfold sendMessage
  dsimp only
  split_ifs
  · exact kept_answerSend _
  · exact ((kept_admitMessage _).trans (kept_modMsg_of_eq rfl rfl)).trans (kept_answerSend _)
  · exact kept_answerSend _
  · exact kept_holdSend

theorem kept_discardStaging : Kept s (discardStaging p s) := (kept_modMsg_of_eq rfl rfl).trans (kept_done _)

/-- Opening the front message of a queue that has one. -/
theorem kept_open {m : Message} {ms : List Message} {i : Nat} (h : (s.port p).msg.queue = m :: ms) :
    Kept s (modMsg p (fun r => { r with opened := true, readIndex := i }) s) :=
  kept_modMsg fun ho => inOrder_opened rfl (by simp [h]) ho.tail

theorem kept_readInHead : Kept s (readInHead p s) := by
  unfold readInHead
  split
  · exact kept_done _
  next m ms hq => exact (kept_open hq).trans (kept_done _)

theorem kept_readInData : Kept s (readInData p s) := by
  unfold readInData
  split
  · exact kept_done _
  next m ms hq =>
    dsimp only
    split
    · exact (kept_open hq).trans (kept_done _)
    · exact (kept_open hq).trans (kept_done _)

theorem kept_popMessage : Kept s (popMessage p s) := by
  unfold popMessage
  split
  · exact kept_done _
  next m ms hq =>
    have hpop : Kept s (modMsg p (fun r => { r with queue := ms, opened := false, readIndex := 0 }) s) :=
      kept_modMsg fun ho => inOrder_closed rfl (by simpa [hq] using ho.tail)
    exact (hpop.trans kept_drain).trans (kept_done _)

/-- Emptying an inbound queue. -/
theorem kept_emptyQueue (f : MessagePortRecord → MessagePortRecord) (hq : (f (s.port p).msg).queue = [])
    (ho : (f (s.port p).msg).opened = false) : Kept s (modMsg p f s) :=
  kept_modMsg fun _ => inOrder_closed ho (by simp [hq])

theorem kept_flushMessages : Kept s (flushMessages p s) :=
  ((kept_emptyQueue _ rfl rfl).trans kept_drain).trans (kept_done _)

theorem kept_expireHold : Kept s (expireHold q p s) := by
  unfold expireHold
  split
  · exact .refl s
  · split
    · exact ((kept_setSendResult _).trans kept_finishSend).trans kept_removeEntry
    · exact .refl s

/-! ### The copy engine -/

theorem kept_with_jobs {js : List Job} {w : Option WordRecord}
    (h : JobsOk s → JobsOk { s with jobs := js, copyWord := w }) : Kept s { s with jobs := js, copyWord := w } where
  store := id
  ports _ := .refl _
  config := .congr rfl rfl rfl rfl
  jobs := h
  nrst := rfl

theorem kept_with_copyWord {w : Option WordRecord} (h : JobsOk s → JobsOk { s with copyWord := w }) :
    Kept s { s with copyWord := w } where
  store := id
  ports _ := .refl _
  config := .congr rfl rfl rfl rfl
  jobs := h
  nrst := rfl

/-- A head job may change in all but what the job queue rests on (R147 to R149). -/
theorem JobsOk.replaceHead {j j' : Job} {js : List Job} {w : Option WordRecord} (h : JobsOk s) (hj : s.jobs = j :: js)
    (hr : j'.requester = j.requester) (hst : j'.state = j.state) (hs : j'.source = j.source)
    (hd : j'.destination = j.destination) (hc : j'.count = j.count) (hw : w.isSome = true)
    (hi : ∀ x, w = some x → x.index < j.count) : JobsOk { s with jobs := j' :: js, copyWord := w } where
  onePerPort := by simpa [hj, hr] using h.onePerPort
  headRuns k ks hk := by
    obtain ⟨rfl, rfl⟩ := List.cons.inj hk
    exact hst ▸ h.headRuns j js hj
  inStore k hk := by
    rcases List.mem_cons.mp hk with rfl | hk
    · simpa [hs, hd, hc] using h.inStore j (by simp [hj])
    · exact h.inStore k (by simp [hj, hk])
  wordPresent := by simpa using hw
  wordInJob k ks x hk hx := by
    obtain ⟨rfl, rfl⟩ := List.cons.inj hk
    exact hc ▸ hi x hx

/-- The running job's word record may be replaced by one within its count (R149). -/
theorem JobsOk.replaceWord {j : Job} {js : List Job} {w : Option WordRecord} (h : JobsOk s) (hj : s.jobs = j :: js)
    (hw : w.isSome = true) (hi : ∀ x, w = some x → x.index < j.count) : JobsOk { s with copyWord := w } where
  onePerPort := h.onePerPort
  headRuns := h.headRuns
  inStore := h.inStore
  wordPresent := by simpa [hj] using hw
  wordInJob k ks x hk hx := by
    obtain ⟨rfl, rfl⟩ := List.cons.inj (hj.symm.trans hk)
    exact hi x hx

theorem promote_requesters (js : List Job) : (promote js).map Job.requester = js.map Job.requester := by
  cases js <;> rfl

/-- When the head job leaves, the next one becomes RUNNING with its first source read presented (R148). -/
theorem JobsOk.dropHead {j : Job} {js : List Job} (h : JobsOk s) (hj : s.jobs = j :: js) :
    JobsOk { s with jobs := promote js, copyWord := firstWord js } where
  onePerPort := by
    have := h.onePerPort
    rw [hj, List.map_cons, List.nodup_cons] at this
    simpa [promote_requesters] using this.2
  headRuns k ks hk := by
    cases js with
    | nil => simp [promote] at hk
    | cons x xs =>
      obtain ⟨rfl, rfl⟩ := List.cons.inj hk
      exact ⟨rfl, fun y hy => (h.headRuns j (x :: xs) hj).2 y (List.mem_cons_of_mem _ hy)⟩
  inStore k hk := by
    cases js with
    | nil => simp [promote] at hk
    | cons x xs =>
      rcases List.mem_cons.mp hk with rfl | hk
      · exact h.inStore x (by simp [hj])
      · exact h.inStore k (by simp [hj, hk])
  wordPresent := by cases js <;> rfl
  wordInJob k ks w hk hw := by
    cases js with
    | nil => simp [promote] at hk
    | cons x xs =>
      obtain ⟨rfl, rfl⟩ := List.cons.inj hk
      obtain rfl := Option.some.inj hw
      exact (h.inStore x (by simp [hj])).1

/-- A job behind the head leaves without touching the running one. -/
theorem JobsOk.filterTail {j : Job} {js : List Job} (f : Job → Bool) (h : JobsOk s) (hj : s.jobs = j :: js) :
    JobsOk { s with jobs := j :: js.filter f } where
  onePerPort := by
    have := h.onePerPort
    rw [hj] at this
    exact this.sublist ((List.filter_sublist.cons_cons j).map Job.requester)
  headRuns k ks hk := by
    obtain ⟨rfl, rfl⟩ := List.cons.inj hk
    exact ⟨(h.headRuns j js hj).1, fun y hy => (h.headRuns j js hj).2 y (List.mem_of_mem_filter hy)⟩
  inStore k hk := by
    rcases List.mem_cons.mp hk with rfl | hk
    · exact h.inStore k (by simp [hj])
    · exact h.inStore k (by simp [hj, List.mem_of_mem_filter hk])
  wordPresent := by simpa [hj] using h.wordPresent
  wordInJob k ks w hk hw := by
    obtain ⟨rfl, rfl⟩ := List.cons.inj hk
    exact h.wordInJob j js w hj hw

theorem kept_removeJob : Kept s (removeJob p s) := by
  unfold removeJob
  split
  · exact .refl s
  next j js hj =>
    split
    · exact kept_with_jobs fun h => h.dropHead hj
    · exact kept_with_jobs fun h => h.filterTail _ hj

/-- A new job inside the store, of a port that has none, stands at the end of the queue (R147, R148). -/
theorem JobsOk.append {j : Job} (h : JobsOk s) (hp : ∀ k ∈ s.jobs, k.requester ≠ j.requester)
    (hst : j.state = if s.jobs.isEmpty then .running else .queued)
    (hin : 1 ≤ j.count ∧ j.source.toNat + j.count ≤ 0x8000 ∧ j.destination.toNat + j.count ≤ 0x8000) :
    JobsOk { s with jobs := s.jobs ++ [j], copyWord := if s.jobs.isEmpty then firstWord [j] else s.copyWord } where
  onePerPort := by
    rw [List.map_append, List.map_singleton]
    refine List.nodup_append.mpr ⟨h.onePerPort, List.nodup_singleton _, fun a ha b hb => ?_⟩
    obtain ⟨k, hk, rfl⟩ := List.mem_map.mp ha
    rw [List.mem_singleton.mp hb]
    exact hp k hk
  headRuns k ks hk := by
    cases hj : s.jobs with
    | nil =>
      simp only [hj, List.nil_append, List.cons.injEq] at hk
      obtain ⟨rfl, rfl⟩ := hk
      simpa [hj] using hst
    | cons x xs =>
      simp only [hj, List.cons_append, List.cons.injEq] at hk
      obtain ⟨rfl, rfl⟩ := hk
      refine ⟨(h.headRuns x xs hj).1, fun y hy => ?_⟩
      rcases List.mem_append.mp hy with hy | hy
      · exact (h.headRuns x xs hj).2 y hy
      · rw [List.mem_singleton.mp hy]; simpa [hj] using hst
  inStore k hk := by
    rcases List.mem_append.mp hk with hk | hk
    · exact h.inStore k hk
    · rw [List.mem_singleton.mp hk]; exact hin
  wordPresent := by
    cases hj : s.jobs with
    | nil => simp [firstWord]
    | cons x xs => simpa [hj] using h.wordPresent
  wordInJob k ks w hk hw := by
    cases hj : s.jobs with
    | nil =>
      simp only [hj, List.nil_append, List.cons.injEq] at hk
      obtain ⟨rfl, rfl⟩ := hk
      simp only [hj, List.isEmpty_nil, if_true, firstWord, Option.some.injEq] at hw
      subst hw
      exact hin.1
    | cons x xs =>
      simp only [hj, List.cons_append, List.cons.injEq] at hk
      obtain ⟨rfl, rfl⟩ := hk
      exact h.wordInJob x xs w hj (by simpa [hj] using hw)

theorem jobOf_eq_none_iff : s.jobOf p = none ↔ ∀ j ∈ s.jobs, j.requester ≠ p := by
  simp [State.jobOf]

theorem kept_acceptJob (hnone : s.jobOf p = none) (hc : (s.port p).copy.count ≠ 0)
    (hsrc : (s.port p).copy.src.toNat + (s.port p).copy.count.toNat ≤ 0x8000)
    (hdst : (s.port p).copy.dst.toNat + (s.port p).copy.count.toNat ≤ 0x8000) : Kept s (acceptJob p s) := by
  have hpos : 1 ≤ (s.port p).copy.count.toNat :=
    Nat.pos_of_ne_zero fun h0 => hc (BitVec.eq_of_toNat_eq (by simpa using h0))
  exact ((kept_with_jobs fun h => h.append (jobOf_eq_none_iff.mp hnone) rfl ⟨hpos, hsrc, hdst⟩).trans
    (kept_modCopy _)).trans (kept_done _)

theorem kept_answerStart (r : Submission) : Kept s (answerStart p r s) := (kept_modCopy _).trans (kept_done _)

theorem kept_startJob : Kept s (startJob p s) := by
  unfold startJob
  dsimp only
  split_ifs with hjob hcount hrange
  · exact kept_answerStart _
  · exact kept_answerStart _
  · exact kept_answerStart _
  · simp only [Config.storeWords, not_or, not_lt] at hrange
    exact kept_acceptJob (by simpa using hjob) hcount hrange.1 hrange.2

theorem kept_postNotice {j : Job} {final : JobState} {fk : JobFault} : Kept s (postNotice j final fk s) := by
  unfold postNotice
  split
  · exact .refl s
  · split
    · exact (kept_admitMessage _).trans (kept_modCopy _)
    · exact kept_modCopy _

theorem kept_endJob {j : Job} {final : JobState} {fk : JobFault} : Kept s (endJob j final fk s) :=
  ((kept_removeJob.trans (kept_modCopy _)).trans (kept_setCause _)).trans kept_postNotice

theorem kept_cancelJob : Kept s (cancelJob p s) := by
  unfold cancelJob
  split
  · exact kept_done _
  next j js hj =>
    split
    · split
      next i w hw =>
        have hmark : Kept s { s with jobs := { j with cancelMarked := true } :: js } :=
          kept_with_jobs fun h => h.replaceHead hj rfl rfl rfl rfl rfl (by simp [hw]) fun x hx => h.wordInJob j js x hj hx
        exact hmark.trans (kept_done _)
      · exact kept_endJob.trans (kept_done _)
    · split
      · exact kept_done _
      · exact kept_endJob.trans (kept_done _)

theorem kept_faultJob {j : Job} {x : AccessType} {addr : Word} {k : FaultKind} {fk : JobFault} {d : Option DescId}
    {m : Option LockId} : Kept s (faultJob j x addr k fk d m s) :=
  (kept_offerFault _).trans kept_endJob

/-- The source half changes the running job's word record, or ends the job (R150, R152). -/
theorem kept_sourceHalf {j : Job} {js : List Job} {i : Nat} (hj : s.jobs = j :: js)
    (hw : s.copyWord = some ⟨i, .source⟩) (h : sourceHalf j i s = .next t) : Kept s t := by
  unfold sourceHalf at h
  dsimp only at h
  split at h
  · cases h
    refine (kept_with_rotation (x := .copyEngine)).trans (kept_with_copyWord fun hok => ?_)
    refine hok.replaceWord hj rfl fun x hx => ?_
    obtain rfl := Option.some.inj hx
    exact hok.wordInJob j js ⟨i, .source⟩ hj hw
  · cases h
  · cases h; exact kept_with_rotation.trans kept_faultJob
  · cases h; exact kept_with_rotation.trans kept_faultJob

/-- What follows a word written keeps the job queue: the job ends, or its next word stands below its count (R151). -/
theorem kept_afterWord {j : Job} {js : List Job} {i : Nat} (hj : s.jobs = j :: js) (hw : s.copyWord.isSome = true) :
    Kept s (afterWord { j with moved := j.moved + 1 } js i s) := by
  have hcounted : Kept s { s with jobs := { j with moved := j.moved + 1 } :: js } :=
    kept_with_jobs fun h => h.replaceHead hj rfl rfl rfl rfl rfl hw fun x hx => h.wordInJob j js x hj hx
  unfold afterWord
  dsimp only
  split_ifs with hmark hlast
  · exact hcounted.trans kept_endJob
  · exact hcounted.trans kept_endJob
  · refine kept_with_jobs fun h => h.replaceHead hj rfl rfl rfl rfl rfl rfl fun x hx => ?_
    obtain rfl := Option.some.inj hx
    exact Nat.lt_of_not_le hlast

/-- The destination half stores the word and goes on, or ends the job (R151, R152). -/
theorem kept_destinationHalf {j : Job} {js : List Job} {i : Nat} {w : Word} (hj : s.jobs = j :: js)
    (hw : s.copyWord = some ⟨i, .destination w⟩) (h : destinationHalf j js i w s = .next t) : Kept s t := by
  unfold destinationHalf at h
  dsimp only at h
  split at h
  next hc =>
    cases h
    have hput : Kept s (putWord (j.destinationAt i) w { s with rotation := .copyEngine }) :=
      kept_with_rotation.trans (kept_putWord (backed_of_check hc nofun))
    exact hput.trans (kept_afterWord hj (by simp [putWord, hw]))
  · cases h
  · cases h; exact kept_with_rotation.trans kept_faultJob
  · cases h; exact kept_with_rotation.trans kept_faultJob

/-! ### The causes, the revoked set and the fault queue -/

/-- A write of INT_CAUSE leaves REVOKED while the revoked set is not empty (R171). -/
theorem getLsbD_clearable {revoked : BitVec 32} {causes ones : BitVec 7} (hr : revoked ≠ 0)
    (h : causes.getLsbD (causeIndex .revoked) = true) :
    (causes &&& ~~~ clearable revoked ones).getLsbD (causeIndex .revoked) = true := by
  have h1 : causes.getLsbD 1 = true := h
  rw [clearable, if_neg hr]
  simp [causeBit, causeIndex, h1]

theorem kept_writeIntCause {w : Word} : Kept s (writeIntCause p w s) :=
  (kept_modIntr (fun hr h => getLsbD_clearable hr h) id).trans (kept_done _)

theorem kept_writeIntMask {w : Word} : Kept s (writeIntMask p w s) :=
  (kept_modIntr (fun _ h => h) id).trans (kept_done _)

/-- The revoked set only shrinks, and no cause is cleared (R14). -/
theorem kept_clearRevoked {ones : BitVec 32} : Kept s (clearRevoked p ones s) := by
  refine Kept.trans (kept_setPort ?_) (kept_done _)
  refine { revoked := fun h hr => h fun h0 => hr ?_, faults := id, queue := id, prst := rfl, next := .inr ⟨rfl, rfl⟩ }
  simp [h0]

theorem kept_popFault : Kept s (popFault p s) := by
  refine Kept.trans (kept_modIntr (fun _ h => h) fun h => ?_) (kept_done _)
  simp only [List.length_tail]
  omega

theorem kept_clearOverrunFlag : Kept s (clearOverrunFlag p s) :=
  (kept_modIntr (fun _ h => h) id).trans (kept_done _)

/-! ### Detach, reattach and teardown -/

theorem next_detach (reason : DetachReason) (data : Option Word) (b : Bus) :
    (b.detach reason data).next = none ∨
      ((b.detach reason data).next = b.next ∧ (b.detach reason data).strobe = b.strobe) := by
  have hc : (b.complete data false).next = none ∨
      ((b.complete data false).next = b.next ∧ (b.complete data false).strobe = b.strobe) :=
    (next_complete b data false).imp id fun h => ⟨h, strobe_complete _ _ _⟩
  cases reason <;> cases hp : b.phase <;> simp_all [Bus.detach, Bus.toReset]

theorem kept_detachPort (reason : DetachReason) : Kept s (detachPort p reason s) :=
  kept_setPort { revoked := id, faults := id, queue := id, prst := rfl, next := next_detach _ _ _ }

theorem kept_detachCommand : Kept s (detachCommand p q s) := by
  refine kept_configWrite ?_
  split_ifs
  · exact kept_badValue _ _
  · exact (kept_detachPort _).trans (kept_done _)
  · exact kept_done _

theorem kept_leavePort : Kept s (leavePort p s) := (kept_done _).trans (kept_detachPort _)

theorem kept_reattach : Kept s (reattach p s) := (kept_modAttach _).trans kept_peerChange

theorem kept_detachedCycle (c : BusCycle) : Kept s (detachedCycle p c s) := by
  unfold detachedCycle
  split
  · exact kept_completeCycle _ _
  · split
    · exact kept_reattach.trans (kept_completeCycle _ _)
    · exact kept_completeCycle _ _

theorem kept_withdraw : Kept s (withdraw p s) := by
  unfold withdraw
  refine Kept.trans ?_ (kept_modAttach _)
  split
  · exact kept_removeWaiter.trans (kept_writeRequest _)
  · exact .refl s

theorem kept_releaseHeld : Kept s (releaseHeld p l s) := by
  unfold releaseHeld
  dsimp only
  split
  · split
    · exact (kept_modAttach _).trans kept_handover
    · exact (kept_modAttach _).trans (kept_setLock _)
  · exact kept_modAttach _

theorem kept_endSendDetached (e : HoldEntry) : Kept s (endSendDetached q s e) :=
  (kept_setSendResult _).trans kept_finishSend

theorem kept_tearDownMessages : Kept s (tearDownMessages p s) := by
  have hremove : ∀ (t : State) (q : PortId), Kept t (if q ≠ p then removeEntry q p t else t) := by
    intro t q
    split
    · exact kept_removeEntry
    · exact .refl t
  unfold tearDownMessages
  dsimp only
  have hended := foldl_kept (fun t e => kept_endSendDetached (q := p) (s := t) e) (s.port p).msg.holdList s
  have hemptied := hended.trans
    (kept_emptyQueue (p := p) (fun r => { r with queue := [], opened := false, readIndex := 0, holdList := [] }) rfl rfl)
  exact ((hemptied.trans (foldl_kept hremove allPorts _)).trans (kept_modMsg_of_eq rfl rfl)).trans (kept_modAttach _)

theorem kept_tearDownCopy : Kept s (tearDownCopy p s) := kept_removeJob.trans (kept_modAttach _)

theorem kept_complete : Kept s (complete p s) := by
  have hreset : Kept s (modPort p PortRecord.toReset s) :=
    kept_setPort { revoked := fun _ h => absurd rfl h, faults := fun _ => Nat.zero_le _, queue := id, prst := rfl
                   next := .inr ⟨rfl, rfl⟩ }
  unfold complete
  dsimp only
  split
  · exact (hreset.trans kept_peerChange).trans kept_reattach
  · exact hreset.trans kept_peerChange

/-! ### The tick event -/

theorem port_tickAll : (tickAll s).port p = { s.port p with msg := (s.port p).msg.tick } := by
  simp [tickAll, State.port, Vector.get_eq_getElem]

theorem lock_tickAll : (tickAll s).lock l = (s.lock l).tick := by
  simp [tickAll, State.lock, Vector.get_eq_getElem]

theorem kept_tickAll : Kept s (tickAll s) where
  store := id
  ports p := by
    rw [port_tickAll]
    exact .msg fun h => ⟨h.ordered, h.openedFront⟩
  config := .congr rfl rfl rfl rfl
  jobs := .congr rfl rfl
  nrst := rfl

/-! ### Every event of a window -/

theorem kept_windowEvent {f : State → State} (hf : WindowEvent p f) : Kept s (f s) := by
  cases hf with
  | answer data => exact kept_done _
  | refuse k c => exact kept_refuseCycle _ _ _ _
  | portCmdCode w => exact kept_configWrite (kept_badValue _ _)
  | take l => exact kept_lockTake
  | wait l n => exact kept_lockWait
  | release l => exact kept_lockRelease
  | cancel l => exact kept_lockCancel
  | renew l => exact kept_lockRenew
  | force l => exact kept_lockForce
  | lockSel w => exact kept_writeLockSel
  | lockCfg w => exact kept_writeLockCfg
  | tick w => exact kept_writeTick
  | holdLimit w => exact kept_writeHoldLimit
  | failWord w => exact kept_writeFailWord
  | orphan w => exact kept_writeOrphan
  | ranks w => exact kept_writeRanks
  | defaultRights w => exact kept_writeDefaultRights
  | descSel w => exact kept_writeDescSel
  | staging f => exact kept_writeStaging f
  | load => exact kept_loadDescriptor
  | commit => exact kept_commitDescriptor
  | ptr w => exact kept_writePtr
  | opnd w => exact kept_writeOpnd
  | step w => exact kept_writeStep
  | request a => exact kept_requestStore a
  | outData w => exact kept_writeOutData
  | send q urgent hold tag => exact kept_sendMessage
  | discard => exact kept_discardStaging
  | inHead => exact kept_readInHead
  | inData => exact kept_readInData
  | pop => exact kept_popMessage
  | flush => exact kept_flushMessages
  | copySrc w => exact (kept_modCopy _).trans (kept_done _)
  | copyDst w => exact (kept_modCopy _).trans (kept_done _)
  | copyCount w =>
    unfold writeCopyCount
    split
    · exact (kept_modCopy _).trans (kept_done _)
    · exact kept_badValue _ _
  | copyNotice w => exact (kept_modCopy _).trans (kept_done _)
  | start => exact kept_startJob
  | copyCancel => exact kept_cancelJob
  | intCause w => exact kept_writeIntCause
  | intMask w => exact kept_writeIntMask
  | clearRevoked ones => exact kept_clearRevoked
  | faultPop => exact kept_popFault
  | clearOverrun => exact kept_clearOverrunFlag
  | leave => exact kept_leavePort
  | detach q => exact kept_detachCommand

end Sys2Proof.Machine
end

section
/-! The invariants that hold record by record are kept by every step, and a step that ends with `settle` leaves no cycle
due: each cycle it takes makes one port fewer wait. -/

namespace Sys2Proof.Machine

variable {p q : PortId} {l : LockId} {s t u : State} {r r' : PortRecord}

/-! ### The pins, the resets and the ends of strobes -/

/-- A change of the state that leaves the records of the ports, the store, the configuration and the jobs. -/
theorem formKept_with_pending (x : List Instr) : FormKept s { s with pending := x } where
  store := id
  ports _ := (PortKept.refl _).toPortFormKept
  config := .congr rfl rfl rfl rfl
  jobs := .congr rfl rfl

theorem formKept_modBus (f : Bus → Bus) : FormKept s (modBus p f s) := formKept_setPort (.of_eq rfl rfl rfl)

theorem formKept_assertPin : FormKept s (assertPin p s) := by
  have hpin : FormKept s (modPort p (fun r => { r with prst := true }) s) := formKept_setPort (.of_eq rfl rfl rfl)
  unfold assertPin
  dsimp only
  split_ifs
  · exact (Kept.refl s).form
  · exact hpin
  · exact hpin.trans (kept_detachPort _).form
  · exact (hpin.trans (kept_modAttach _).form).trans (formKept_modBus _)

theorem formKept_releasePin : FormKept s (releasePin p s) := by
  have hpin : FormKept s (modPort p (fun r => { r with prst := false }) s) := formKept_setPort (.of_eq rfl rfl rfl)
  unfold releasePin
  dsimp only
  split
  · exact hpin.trans kept_reattach.form
  · exact hpin

theorem port_assertReset : (assertReset s).port p = (s.port p).deviceReset := by
  simp [assertReset, State.port, Vector.get_eq_getElem]

theorem port_releaseReset (a b : Bool) (h : s.nrst = true) :
    (releaseReset a b s).port p = (s.port p).resetReleased := by
  simp [releaseReset, State.port, Vector.get_eq_getElem, h]

/-- The records of a port under device reset (R202). -/
theorem portFormKept_deviceReset : PortFormKept r r.deviceReset where
  revoked _ h := absurd rfl h
  faults _ := Nat.zero_le _
  queue _ := inOrder_closed rfl List.Pairwise.nil

theorem portFormKept_resetReleased : PortFormKept r r.resetReleased := by
  unfold PortRecord.resetReleased
  split
  · exact .of_eq rfl rfl rfl
  · exact .of_eq rfl rfl rfl

theorem jobsOk_nil (hj : s.jobs = []) (hw : s.copyWord = none) : JobsOk s where
  onePerPort := by simp [hj]
  headRuns := by simp [hj]
  inStore := by simp [hj]
  wordPresent := by simp [hj, hw]
  wordInJob := by simp [hj]

theorem desc_reset (d : DescId) : State.reset.desc d = Descriptor.reset := by
  simp [State.reset, State.desc, Vector.get_eq_getElem]

theorem configLegal_reset : ConfigLegal State.reset where
  tickLow := by simp [State.reset]
  tickHigh := by simp [State.reset]
  holdLimit := by simp [State.reset]
  defaultRights := rfl
  descriptors d := by rw [desc_reset]; rfl

theorem formKept_assertReset : FormKept s (assertReset s) where
  store := id
  ports p := by rw [port_assertReset]; exact portFormKept_deviceReset
  config _ := .congr (s := State.reset) rfl rfl rfl rfl configLegal_reset
  jobs _ := jobsOk_nil rfl rfl

theorem formKept_releaseReset (a b : Bool) (h : s.nrst = true) : FormKept s (releaseReset a b s) where
  store hs := by simpa [releaseReset, h, StoreCanonical] using hs
  ports p := by rw [port_releaseReset a b h]; exact portFormKept_resetReleased
  config := .congr (by simp [releaseReset, h]) (by simp [releaseReset, h]) (by simp [releaseReset, h])
    (by simp [releaseReset, h])
  jobs := .congr (by simp [releaseReset, h]) (by simp [releaseReset, h])

/-! ### Every step -/

theorem windowKeeps_formKept (s : State) : WindowKeeps (FormKept s) where
  event hf _ h := h.trans (kept_begin.trans (kept_windowEvent hf)).form
  detached c _ h := h.trans (kept_begin.trans (kept_detachedCycle c)).form
  waits _ _ _ h := h.trans (formKept_modBus _)
  strobes _ h := h.trans (formKept_modBus _)

theorem runs_formKept (h : Runs s t) : FormKept s t := by
  have hw := windowKeeps_formKept s
  cases h with
  | window p c => exact hw.settle (hw.hostCycle c (Kept.refl s).form)
  | nothing => exact (Kept.refl s).form
  | noEvent => exact hw.settle (Kept.refl s).form
  | tick h => exact kept_tickAll.form
  | leaseExpiry l h => exact hw.settle kept_expireLease.form
  | patienceExpiry l p h => exact hw.settle kept_expirePatience.form
  | rotationGrant h => exact hw.settle kept_grantNext.form
  | holdExpiry q p h => exact hw.settle kept_expireHold.form
  | sourceRead h hjobs hword hnext => exact (kept_sourceHalf hjobs hword hnext).form
  | destinationWrite h hjobs hword hnext => exact (kept_destinationHalf hjobs hword hnext).form
  | pinAssert p => exact formKept_assertPin
  | pinRelease p => exact formKept_releasePin
  | withdrawal p h hw => exact kept_withdraw.form
  | releaseEvent p l h hw' => exact hw.settle kept_releaseHeld.form
  | messageTeardown p h hm => exact hw.settle kept_tearDownMessages.form
  | copyTeardown p h => exact kept_tearDownCopy.form
  | completion p h hd => exact kept_complete.form
  | deviceReset => exact formKept_assertReset
  | resetRelease a b h => exact formKept_releaseReset a b h
  | cycleEnd p => exact formKept_modBus _

/-- No step breaks an invariant that holds record by record. -/
theorem step_formKept (h : step s = .next t) : FormKept s t := by
  rcases step_runs h with rfl | ⟨rest, hruns⟩
  · exact (Kept.refl t).form
  · exact (formKept_with_pending rest).trans (runs_formKept hruns)

/-- Settles O54. -/
theorem storeCanonicalKept : Obligations.StoreCanonicalKept :=
  fun _ _ hs hstep => (step_formKept hstep).store hs

/-- Settles O55: REVOKED is shown at each port by its own records. -/
theorem revokedShownKept : Obligations.RevokedShownKept :=
  fun _ _ hs hstep p => ((step_formKept hstep).ports p).revoked (hs p)

/-- Settles O56. -/
theorem configurationLegalKept : Obligations.ConfigurationLegalKept :=
  fun _ _ hstep => ⟨(step_formKept hstep).config, fun hs p => ((step_formKept hstep).ports p).faults (hs p)⟩

/-- Settles O60. -/
theorem queuesOrderedKept : Obligations.QueuesOrderedKept :=
  fun _ _ hs hstep => queuesOrdered_iff.mpr fun q => ((step_formKept hstep).ports q).queue (queuesOrdered_iff.mp hs q)

/-! ### A step always goes on -/

/-- The address of a copied word, for a block that starts at `b` (Table 7-2). -/
theorem blockAddress_lt {j : Job} {b : Word} {i : Nat} (hi : i < j.count) (hb : b.toNat + j.count ≤ 0x8000) :
    (b + BitVec.ofNat 16 (j.offset i)).toNat < 0x8000 := by
  have hoff : j.offset i < j.count := by
    unfold Job.offset
    split <;> omega
  rw [BitVec.toNat_add, BitVec.toNat_ofNat]
  omega

/-- Inside the store the check of a copied word is never NO_STORE (R145, R152). -/
theorem check_ne_noStore {x : AccessType} {a : Word} (ha : a.toNat < 0x8000) : s.check p x a ≠ .noStore := by
  unfold State.check
  rw [if_neg (by simpa [Config.storeWords] using ha)]
  split
  · split
    · nofun
    · unfold State.checkGuard
      split
      · nofun
      · split <;> nofun
  · nofun

theorem goes_sourceHalf {j : Job} {js : List Job} {i : Nat} (h : JobsOk s) (hj : s.jobs = j :: js)
    (hw : s.copyWord = some ⟨i, .source⟩) : Goes (sourceHalf j i s) := by
  have hin := h.inStore j (by simp [hj])
  have hi : i < j.count := h.wordInJob j js _ hj hw
  have hcheck : s.check j.requester .read (j.sourceAt i) ≠ .noStore := check_ne_noStore (blockAddress_lt hi hin.2.1)
  unfold sourceHalf
  dsimp only
  split
  · exact ⟨_, rfl⟩
  next hno => exact absurd hno hcheck
  · exact ⟨_, rfl⟩
  · exact ⟨_, rfl⟩

theorem goes_destinationHalf {j : Job} {js : List Job} {i : Nat} {w : Word} (h : JobsOk s) (hj : s.jobs = j :: js)
    (hw : s.copyWord = some ⟨i, .destination w⟩) : Goes (destinationHalf j js i w s) := by
  have hin := h.inStore j (by simp [hj])
  have hi : i < j.count := h.wordInJob j js _ hj hw
  have hcheck : s.check j.requester .write (j.destinationAt i) ≠ .noStore := check_ne_noStore (blockAddress_lt hi hin.2.2)
  unfold destinationHalf
  dsimp only
  split
  · exact ⟨_, rfl⟩
  next hno => exact absurd hno hcheck
  · exact ⟨_, rfl⟩
  · exact ⟨_, rfl⟩

/-- Only the two copy halves could stop, and on a well-formed job queue they do not. -/
theorem goes_exec (i : Instr) (h : JobsOk s) : Goes (exec i s) := by
  cases i
  case sourceRead =>
    simp only [exec, execSourceRead]
    split
    · exact ⟨s, rfl⟩
    · split
      next j js i hj hw => exact goes_sourceHalf h hj hw
      · exact ⟨s, rfl⟩
  case destinationWrite =>
    simp only [exec, execDestinationWrite]
    split
    · exact ⟨s, rfl⟩
    · split
      next j js i w hj hw => exact goes_destinationHalf h hj hw
      · exact ⟨s, rfl⟩
  all_goals exact ⟨_, rfl⟩

theorem goes_step (h : JobsOk s) : Goes (step s) := by
  unfold step
  split
  next c rest hq => exact goes_exec c (.congr (s := s) rfl rfl h)
  next => exact ⟨s, rfl⟩

/-- Settles O58. -/
theorem jobsKept : Obligations.JobsKept := by
  intro s h
  obtain ⟨t, ht⟩ := goes_step h
  exact ⟨t, ht, (step_formKept ht).jobs h⟩

/-! ### The cycles that wait -/

/-- The ports at which a cycle waits to be taken. -/
def State.waiting (s : State) : Finset PortId := Finset.univ.filter fun p => (s.port p).bus.next.isSome = true

theorem mem_waiting : p ∈ s.waiting ↔ (s.port p).bus.next.isSome = true := by
  simp [State.waiting]

theorem card_waiting_le (s : State) : s.waiting.card ≤ 4 := Finset.card_le_univ s.waiting

theorem Kept.waiting_subset (h : Kept s t) : t.waiting ⊆ s.waiting := by
  intro p hp
  rw [mem_waiting] at hp ⊢
  rcases (h.ports p).next with hn | ⟨hn, -⟩
  · simp [hn] at hp
  · rwa [← hn]

/-- Taking the cycle that waits at a port leaves that port without one and makes none wait elsewhere. -/
theorem takeWaiting_kept (h : s.cycleDue p = true) : Kept (modBus p (fun _ => Bus.begin) s) (takeWaiting p s) := by
  simp only [State.cycleDue, Bool.and_eq_true] at h
  obtain ⟨c, hc⟩ := Option.isSome_iff_exists.mp h.2
  cases ha : (s.port p).attach.attached
  · rw [takeWaiting_detached p s c hc ha]; exact kept_detachedCycle c
  · rw [takeWaiting_attached p s c hc ha]; exact kept_windowEvent (windowAccess_event p c)

theorem waiting_begin (h : (s.port p).bus.next.isSome = true) :
    (modBus p (fun _ => Bus.begin) s).waiting.card < s.waiting.card := by
  refine Finset.card_lt_card ((Finset.ssubset_iff_of_subset kept_begin.waiting_subset).mpr ⟨p, mem_waiting.mpr h, ?_⟩)
  rw [mem_waiting, modBus_begin_eq, port_setPort_self]
  simp [Bus.begin]

theorem takeWaiting_waiting (h : s.cycleDue p = true) : (takeWaiting p s).waiting.card < s.waiting.card := by
  have hnext : (s.port p).bus.next.isSome = true := by
    simp only [State.cycleDue, Bool.and_eq_true] at h
    exact h.2
  exact (Finset.card_le_card (takeWaiting_kept h).waiting_subset).trans_lt (waiting_begin hnext)

theorem cycleDue_of_card_zero (h : s.waiting.card ≤ 0) (p : PortId) : s.cycleDue p = false := by
  have hp : p ∉ s.waiting := by simp [Finset.card_eq_zero.mp (Nat.le_zero.mp h)]
  simp only [mem_waiting, Bool.not_eq_true] at hp
  simp [State.cycleDue, hp]

theorem mem_allPorts (p : PortId) : p ∈ allPorts := by
  fin_cases p <;> simp [allPorts]

/-- With as many rounds as there are ports with a cycle waiting, no cycle is left due. -/
theorem cycleDue_settleWithin (n : Nat) : ∀ s : State, s.waiting.card ≤ n → ∀ p, (settleWithin n s).cycleDue p = false := by
  induction n with
  | zero => exact fun s h => cycleDue_of_card_zero h
  | succ n ih =>
    intro s h
    unfold settleWithin
    split
    next p hp => exact ih _ (Nat.le_of_lt_succ ((takeWaiting_waiting (List.find?_some hp)).trans_le h))
    next hp =>
      intro p
      simpa using List.find?_eq_none.mp hp p (mem_allPorts p)

theorem cycleDue_settle (s : State) (p : PortId) : (settle s).cycleDue p = false :=
  cycleDue_settleWithin 4 s (card_waiting_le s) p

/-- Cycles wait under their hosts' strobes and outside reset: what holds of a state in the middle of an event. -/
def WaitsUnderStrobe (s : State) : Prop :=
  ∀ p, (s.port p).bus.next.isSome = true → (s.port p).bus.strobe = true ∧ s.busInReset p = false

theorem WaitingCyclesOk.waitsUnderStrobe (h : WaitingCyclesOk s) : WaitsUnderStrobe s := by
  intro p hp
  refine ⟨(h.behindOpen p hp).1, Bool.eq_false_iff.mpr fun hr => ?_⟩
  simp [h.noneInReset p hr] at hp

theorem Kept.waitsUnderStrobe (h : Kept s t) (hs : WaitsUnderStrobe s) : WaitsUnderStrobe t := by
  intro p hp
  have hreset : t.busInReset p = s.busInReset p := by rw [State.busInReset, State.busInReset, h.nrst, (h.ports p).prst]
  rcases (h.ports p).next with hn | ⟨hn, hst⟩
  · simp [hn] at hp
  · rw [hst, hreset]
    exact hs p (by rwa [← hn])

/-- Where no cycle is due, a cycle that waits has an open one before it. -/
theorem WaitsUnderStrobe.ok (h : WaitsUnderStrobe s) (hdue : ∀ p, s.cycleDue p = false) : WaitingCyclesOk s where
  behindOpen p hp := by
    obtain ⟨hst, hr⟩ := h p hp
    refine ⟨hst, fun hi => ?_⟩
    have := hdue p
    simp [State.cycleDue, hst, hr, hi, hp] at this
  noneInReset p hr := by
    by_contra hn
    obtain ⟨-, hr'⟩ := h p (Option.isSome_iff_ne_none.mpr hn)
    simp [hr] at hr'

theorem windowKeeps_waitsUnderStrobe : WindowKeeps WaitsUnderStrobe where
  event hf _ h := (kept_begin.trans (kept_windowEvent hf)).waitsUnderStrobe h
  detached c _ h := (kept_begin.trans (kept_detachedCycle c)).waitsUnderStrobe h
  waits {p s} c hr _ h q hq := by
    by_cases hqp : q = p
    · subst hqp
      simp only [State.busInReset, modBus_eq, port_setPort_self]
      exact ⟨trivial, hr⟩
    · simp only [State.busInReset, modBus_eq, port_setPort_ne p q s _ hqp] at hq ⊢
      exact h q hq
  strobes {p s} hr h q hq := by
    by_cases hqp : q = p
    · subst hqp
      simp only [modBus_eq, port_setPort_self] at hq
      simp [(h q hq).2] at hr
    · simp only [State.busInReset, modBus_eq, port_setPort_ne p q s _ hqp] at hq ⊢
      exact h q hq

/-- The end of an event that began in a state where cycles wait under their strobes. -/
theorem waitingCyclesOk_settle (h : WaitsUnderStrobe s) : WaitingCyclesOk (settle s) :=
  (windowKeeps_waitsUnderStrobe.settle h).ok (cycleDue_settle s)

/-- Changes that leave the buses, the pins and nRST. -/
theorem WaitingCyclesOk.congr (h : WaitingCyclesOk s) (hn : t.nrst = s.nrst)
    (hb : ∀ p, (t.port p).bus = (s.port p).bus) (hp : ∀ p, (t.port p).prst = (s.port p).prst) : WaitingCyclesOk t where
  behindOpen p := by rw [hb p]; exact h.behindOpen p
  noneInReset p := by rw [State.busInReset, hn, hp p, hb p]; exact h.noneInReset p

end Sys2Proof.Machine
end

section
/-! The writes of registers that one port's records answer: configuration values, selections and staging copies, the
access engine, copy parameters, causes and faults, and the register cycles without a command of their own. Each is an
update of one group of records before a completed cycle, or a refusal. -/

namespace Sys2Proof.Machine

variable {p q : PortId} {l : LockId} {s t : State} {w : Word}

/-! ### The answer of a window command -/

/-- A window command of a ready port answers what its event makes of the state with the cycle begun. -/
theorem windowCommand_answer (hr : Ready s p) {c : BusCycle} {body : State → State}
    (h : body (modBus p (fun _ => Bus.begin) s) = t) : windowCommand p c body s = .next (settle t) := by
  rw [windowCommand_ready hr, h]

/-- The records of a port whose cycle has begun are its own, with the bus begun. -/
@[simp] theorem port_begin_self : (modBus p (fun _ => Bus.begin) s).port p = { s.port p with bus := Bus.begin } := by
  simp [modBus_begin_eq]

theorem done_modEngine_begin (f : Engine → Engine) (data : Option Word) :
    done p data (modEngine p f (modBus p (fun _ => Bus.begin) s)) =
      s.after p (fun r => { r with engine := f r.engine }) data := by
  simp [done_eq, modEngine_eq, modBus_begin_eq, State.after]

theorem done_modLockPort_begin (f : LockPortRecord → LockPortRecord) (data : Option Word) :
    done p data (modLockPort p f (modBus p (fun _ => Bus.begin) s)) =
      s.after p (fun r => { r with lock := f r.lock }) data := by
  simp [done_eq, modLockPort_eq, modBus_begin_eq, State.after]

theorem done_modRegion_begin (f : RegionPortRecord → RegionPortRecord) (data : Option Word) :
    done p data (modRegion p f (modBus p (fun _ => Bus.begin) s)) =
      s.after p (fun r => { r with region := f r.region }) data := by
  simp [done_eq, modRegion_eq, modBus_begin_eq, State.after]

theorem done_modCopy_begin (f : CopyPortRecord → CopyPortRecord) (data : Option Word) :
    done p data (modCopy p f (modBus p (fun _ => Bus.begin) s)) =
      s.after p (fun r => { r with copy := f r.copy }) data := by
  simp [done_eq, modCopy_eq, modBus_begin_eq, State.after]

theorem done_modIntr_begin (f : InterruptRecord → InterruptRecord) (data : Option Word) :
    done p data (modIntr p f (modBus p (fun _ => Bus.begin) s)) =
      s.after p (fun r => { r with intr := f r.intr }) data := by
  simp [done_eq, modIntr_eq, modBus_begin_eq, State.after]

/-- A write refused with BAD_VALUE, its cycle taken in this event. -/
theorem badValue_begin (r : Reg) :
    badValue p r w (modBus p (fun _ => Bus.begin) s) =
      s.refused p .badValue (BitVec.ofNat 16 (2 * (regAddr r).toNat)) (.write w) none none :=
  refuseCycle_begin p s .badValue (cycleAt r (.write w)) none none

/-! ### Configuration registers -/

theorem configWrite_own {r : Reg} {body : State → State} (h : p = s.configPort) :
    configWrite p r w body s = body s := by
  simp [configWrite, h]

/-- A configuration write of another port is refused with PRIVILEGE, whatever it would write (R184). -/
theorem configWrite_other {r : Reg} {body : State → State} (h : p ≠ s.configPort) :
    configWrite p r w body (modBus p (fun _ => Bus.begin) s) =
      s.refused p .privilege (BitVec.ofNat 16 (2 * (regAddr r).toNat)) (.write w) none none := by
  have h' : p ≠ (modBus p (fun _ => Bus.begin) s).configPort := h
  rw [configWrite, if_pos h', refuseCycle_begin]
  rfl

theorem commitDescriptor_other (h : p ≠ s.configPort) :
    commitDescriptor p (modBus p (fun _ => Bus.begin) s) =
      s.refused p .privilege 0x3C (.write 2) (some (s.port p).region.sel) none := by
  have h' : p ≠ (modBus p (fun _ => Bus.begin) s).configPort := h
  simp only [commitDescriptor, if_pos h', refuseCycle_begin, port_begin_self]
  rfl

/-- A PORT_CMD word, whatever it names, is judged by the port first (R188). -/
theorem writePortCmd_judged : ∃ w' body, writePortCmd p w = configWrite p .portCmd w' body := by
  unfold writePortCmd
  split
  · exact ⟨_, _, rfl⟩
  · exact ⟨_, _, rfl⟩

theorem writePortCmd_other (h : p ≠ s.configPort) :
    writePortCmd p w (modBus p (fun _ => Bus.begin) s) = s.refused p .privilege 0x64 (.write w) none none := by
  obtain ⟨w', body, hcmd⟩ := writePortCmd_judged (p := p) (w := w)
  rw [hcmd]
  exact configWrite_other h

/-- Settles O18: each write is a `configWrite`, which judges the port first; COMMIT names the selected descriptor. -/
theorem otherPortsRefusedPrivilege : Obligations.OtherPortsRefusedPrivilege := by
  intro p target w s hr hp
  refine ⟨?tick, ?holdLimit, ?failWord, ?orphan, ?ranks, ?defaultRights, ?lockCfg, ?commit, ?detach, ?portCmd⟩
  case commit => exact windowCommand_answer hr (commitDescriptor_other hp)
  case portCmd => exact windowCommand_answer hr (writePortCmd_other hp)
  all_goals exact windowCommand_answer hr (configWrite_other hp)

theorem byteField_eq : byteField w = w.setWidth 8 := by
  unfold byteField
  ext i hi
  simp

theorem periodOf_eq : periodOf w = w.setWidth 8 := byteField_eq

theorem rightsLegal_iff {b : BitVec 8} : rightsLegal b = true ↔ ∀ q, fieldOf b q ≠ 3 := by
  simp [rightsLegal, mem_allPorts]

section
variable (hr : Ready s p) (hp : p = s.configPort)
include hr hp

/-- An accepted configuration write: its event runs on the state with the cycle begun. -/
theorem windowCommand_config {c : BusCycle} {r : Reg} {body : State → State}
    (h : body (modBus p (fun _ => Bus.begin) s) = t) :
    windowCommand p c (configWrite p r w body) s = .next (settle t) := by
  refine windowCommand_answer hr ?_
  rw [configWrite_own (s := modBus p (fun _ => Bus.begin) s) hp, h]

theorem exec_tickWrite_accepted (h1 : 1 ≤ w.toNat) (h2 : w.toNat ≤ 4095) :
    exec (.tickWrite p w) s = .next (settle { s.after p id none with tick := w }) := by
  refine windowCommand_config hr hp ?_
  rw [if_pos ⟨h1, h2⟩]
  exact congrArg (fun t : State => { t with tick := w }) (done_begin (s := s) none)

theorem exec_tickWrite_refused (h : w.toNat = 0 ∨ 4095 < w.toNat) :
    exec (.tickWrite p w) s = .next (settle (s.refused p .badValue 0x58 (.write w) none none)) := by
  refine windowCommand_config hr hp ?_
  rw [if_neg (by simp only [Config.tickMax]; omega)]
  exact badValue_begin .tick

theorem exec_holdLimitWrite_accepted (h1 : 1 ≤ w.toNat) (h2 : w.toNat ≤ 255) :
    exec (.holdLimitWrite p w) s = .next (settle { s.after p id none with holdLimit := w.setWidth 8 }) := by
  refine windowCommand_config hr hp ?_
  rw [if_pos ⟨h1, h2⟩, ← byteField_eq]
  exact congrArg (fun t : State => { t with holdLimit := byteField w }) (done_begin (s := s) none)

theorem exec_holdLimitWrite_refused (h : w.toNat = 0 ∨ 255 < w.toNat) :
    exec (.holdLimitWrite p w) s = .next (settle (s.refused p .badValue 0x5A (.write w) none none)) := by
  refine windowCommand_config hr hp ?_
  rw [if_neg (by omega)]
  exact badValue_begin .holdLimit

theorem exec_defaultRightsWrite_accepted (h : ∀ q, fieldOf (w.setWidth 8) q ≠ 3) :
    exec (.defaultRightsWrite p w) s = .next (settle { s.after p id none with defaultRights := w.setWidth 8 }) := by
  rw [← byteField_eq] at h ⊢
  refine windowCommand_config hr hp ?_
  rw [if_pos (rightsLegal_iff.mpr h)]
  exact congrArg (fun t : State => { t with defaultRights := byteField w }) (done_begin (s := s) none)

theorem exec_defaultRightsWrite_refused (h : fieldOf (w.setWidth 8) q = 3) :
    exec (.defaultRightsWrite p w) s = .next (settle (s.refused p .badValue 0x62 (.write w) none none)) := by
  refine windowCommand_config hr hp ?_
  rw [if_neg (by rw [rightsLegal_iff, byteField_eq]; exact fun hall => hall q h)]
  exact badValue_begin .defaultRights

theorem exec_lockCfgWrite_refused (hl : l = (s.port p).lock.sel) (h1 : policyOf w ≠ (s.lock l).policy)
    (h2 : (s.lock l).waiters ≠ []) :
    exec (.lockCfgWrite p w) s = .next (settle (s.refused p .badState 0x32 (.write w) none (some l))) := by
  subst hl
  refine windowCommand_config hr hp ?_
  simp only [port_begin_self, lock_modBus, if_pos (And.intro h1 h2), refuseCycle_begin]
  rfl

/-- An accepted LOCK_CFG write replaces both fields and leaves a running lease (R43, R187). -/
theorem exec_lockCfgWrite_accepted (hl : l = (s.port p).lock.sel)
    (h : policyOf w = (s.lock l).policy ∨ (s.lock l).waiters = []) :
    exec (.lockCfgWrite p w) s =
      .next (settle (setLock l { s.lock l with policy := policyOf w, leasePeriod := periodOf w } (s.after p id none))) := by
  subst hl
  refine windowCommand_config hr hp ?_
  have hno : ¬ (policyOf w ≠ (s.lock (s.port p).lock.sel).policy ∧ (s.lock (s.port p).lock.sel).waiters ≠ []) := by
    tauto
  simp only [port_begin_self, lock_modBus, if_neg hno, modLock_eq]
  exact congrArg (setLock _ _) (done_begin (s := s) none)

end

/-- Settles O17, register by register (R184, R187). -/
theorem configurationWrites : Obligations.ConfigurationWrites := by
  intro p w s hr hp
  refine ⟨exec_tickWrite_accepted hr hp, exec_tickWrite_refused hr hp, exec_holdLimitWrite_accepted hr hp,
    exec_holdLimitWrite_refused hr hp, ?failWord, ?orphan, ?ranks, exec_defaultRightsWrite_accepted hr hp,
    fun q hq => exec_defaultRightsWrite_refused hr hp hq, fun h => ?lockCfgRefused, fun h => ?lockCfgAccepted⟩
  case failWord =>
    exact windowCommand_config hr hp (congrArg (fun t : State => { t with failWord := w }) (done_begin (s := s) none))
  case orphan =>
    exact windowCommand_config hr hp
      (congrArg (fun t : State => { t with orphan := orphanOf w }) (done_begin (s := s) none))
  case ranks =>
    rw [← byteField_eq]
    exact windowCommand_config hr hp (congrArg (fun t : State => { t with ranks := byteField w }) (done_begin (s := s) none))
  case lockCfgRefused => exact exec_lockCfgWrite_refused hr hp rfl h.1 h.2
  case lockCfgAccepted =>
    rw [exec_lockCfgWrite_accepted hr hp rfl h, periodOf_eq]
    rfl

/-! ### Selections and staging copies -/

/-- The number that the low bits of a word in range carry. -/
theorem lockOf_low (h : w.toNat = l.val) : lockOf (w.extractLsb' 0 5) = l := by
  ext
  have := l.isLt
  simp only [lockOf, toNat_extractLsb'_eq_div_mod, h]
  omega

theorem descOf_low {d : DescId} (h : w.toNat = d.val) : descOf (w.extractLsb' 0 4) = d := by
  ext
  have := d.isLt
  simp only [descOf, toNat_extractLsb'_eq_div_mod, h]
  omega

theorem writeLockSel_accepted (h : w.toNat = l.val) :
    writeLockSel p w s = done p none (modLockPort p (fun r => { r with sel := l }) s) := by
  have := l.isLt
  rw [writeLockSel, if_neg (by omega), lockOf_low h]

theorem writeDescSel_accepted {d : DescId} (h : w.toNat = d.val) :
    writeDescSel p w s = done p none (modRegion p (fun r => { r with sel := d }) s) := by
  have := d.isLt
  rw [writeDescSel, if_neg (by omega), descOf_low h]

theorem loadDescriptor_begin :
    loadDescriptor p (modBus p (fun _ => Bus.begin) s) =
      s.after p (fun r => { r with region := { r.region with staging := s.desc (s.port p).region.sel } }) none :=
  done_modRegion_begin _ _

/-- Settles O19 (R26, R55 to R57, R211). -/
theorem selectionAndStagingWrites : Obligations.SelectionAndStagingWrites := by
  intro p w s hr
  refine ⟨fun l h => ?lockSel, fun h => ?lockSelRefused, fun d h => ?descSel, fun h => ?descSelRefused, ?base, ?attr,
    ?rights, ?load⟩
  case lockSel =>
    exact windowCommand_answer hr ((writeLockSel_accepted h).trans (done_modLockPort_begin _ _))
  case lockSelRefused => exact windowCommand_answer hr ((if_pos h).trans (badValue_begin .lockSel))
  case descSel => exact windowCommand_answer hr ((writeDescSel_accepted h).trans (done_modRegion_begin _ _))
  case descSelRefused => exact windowCommand_answer hr ((if_pos h).trans (badValue_begin .descSel))
  case base => exact windowCommand_answer hr (done_modRegion_begin _ _)
  case attr => exact windowCommand_answer hr (done_modRegion_begin _ _)
  case rights =>
    rw [← byteField_eq]
    exact windowCommand_answer hr (done_modRegion_begin _ _)
  case load => exact windowCommand_answer hr loadDescriptor_begin

/-! ### COMMIT -/

/-- The four conditions of Table 3-3. -/
theorem valid_iff {d : Descriptor} : d.valid = true ↔
    4 ≤ d.sizeCode.toNat ∧ 2 ^ d.sizeCode.toNat ∣ d.base.toNat ∧ d.base.toNat < 0x8000 ∧ ∀ q, fieldOf d.rights q ≠ 3 := by
  simp only [Descriptor.valid, Bool.and_eq_true, decide_eq_true_eq, rightsLegal_iff,
    Nat.dvd_iff_mod_eq_zero, and_assoc]
  rfl

theorem commitDescriptor_valid (hp : p = s.configPort) (h : (s.port p).region.staging.valid = true) :
    commitDescriptor p (modBus p (fun _ => Bus.begin) s) =
      setDesc (s.port p).region.sel (s.port p).region.staging (s.after p id none) := by
  have hp' : ¬ p ≠ (modBus p (fun _ => Bus.begin) s).configPort := not_not.mpr hp
  simp only [commitDescriptor, if_neg hp', port_begin_self, if_pos h]
  exact congrArg (setDesc _ _) (done_begin (s := s) none)

theorem commitDescriptor_invalid (hp : p = s.configPort) (h : ¬ (s.port p).region.staging.valid = true) :
    commitDescriptor p (modBus p (fun _ => Bus.begin) s) =
      s.refused p .badDesc 0x3C (.write 2) (some (s.port p).region.sel) none := by
  have hp' : ¬ p ≠ (modBus p (fun _ => Bus.begin) s).configPort := not_not.mpr hp
  simp only [commitDescriptor, if_neg hp', port_begin_self, if_neg h, refuseCycle_begin]
  rfl

/-- Settles O20, by whether the staging copy is valid. -/
theorem commitOutcome : Obligations.CommitOutcome := by
  intro p s hr hp
  refine ⟨fun h => ?valid, fun h => ?invalid⟩
  case valid => exact windowCommand_answer hr (commitDescriptor_valid hp (valid_iff.mpr h))
  case invalid => exact windowCommand_answer hr (commitDescriptor_invalid hp (mt valid_iff.mp h))

/-! ### The access engine -/

/-- A STEP word in range is the sign extension of its low byte (R98). -/
theorem signExtend_low (h : w.toNat ≤ 0x7F ∨ 0xFF80 ≤ w.toNat) : (w.extractLsb' 0 8).signExtend 16 = w := by
  have hw := w.isLt
  have hlow : (w.extractLsb' 0 8).toNat = w.toNat % 256 := by rw [toNat_extractLsb'_eq_div_mod]; simp
  apply BitVec.eq_of_toNat_eq
  rw [BitVec.toNat_signExtend, BitVec.toNat_setWidth, BitVec.msb_eq_decide, hlow]
  by_cases hneg : 2 ^ (8 - 1) ≤ w.toNat % 256
  · simp only [hneg, decide_true, if_true]
    omega
  · simp only [hneg, decide_false, Bool.false_eq_true, if_false]
    omega

theorem stepAccepted_iff : stepAccepted w = true ↔ w.toNat ≤ 0x7F ∨ 0xFF80 ≤ w.toNat := by
  simp [stepAccepted]

/-- A store request leaves the cycle open with RDY low (R99, R100). -/
theorem requestStore_begin (a : HostAccess) :
    requestStore p a (modBus p (fun _ => Bus.begin) s) = setPort p { s.port p with
      engine := { (s.port p).engine with request := some a }
      bus := { strobe := true, phase := .store, next := none, data := none, nerrLow := false } } s := by
  simp [requestStore, modEngine_eq, modBus_eq, Bus.begin]

/-- Settles O23 (R97 to R100). -/
theorem engineWritesAndRequests : Obligations.EngineWritesAndRequests := by
  intro p w s hr
  refine ⟨?ptr, ?opnd, fun h => ⟨w.extractLsb' 0 8, signExtend_low h, ?step⟩, fun h1 h2 => ?stepRefused, ?read, ?write,
    ?xchg, ?fadd⟩
  case ptr => exact windowCommand_answer hr (done_modEngine_begin _ _)
  case opnd => exact windowCommand_answer hr (done_modEngine_begin _ _)
  case step =>
    exact windowCommand_answer hr ((if_pos (stepAccepted_iff.mpr h)).trans (done_modEngine_begin _ _))
  case stepRefused =>
    exact windowCommand_answer hr ((if_neg (by rw [stepAccepted_iff]; omega)).trans (badValue_begin .step))
  all_goals exact windowCommand_answer hr (requestStore_begin _)

/-! ### The staging buffer -/

/-- Settles O28 (R116, R117). -/
theorem outDataAndDiscard : Obligations.OutDataAndDiscard := by
  intro p w s hr
  refine ⟨fun h => ?appended, fun h => ?overflow, ?discard⟩
  case appended =>
    refine windowCommand_answer hr ?_
    rw [writeOutData, if_pos (by simpa [Config.stagingMax] using h), done_modMsg_begin]
  case overflow =>
    refine windowCommand_answer hr ?_
    rw [writeOutData, if_neg (by simpa [Config.stagingMax] using h), refuseCycle_begin]
    rfl
  case discard => exact windowCommand_answer hr (done_modMsg_begin _ _)

/-! ### The copy parameters -/

/-- Settles O35 (R143). -/
theorem copyParameterWrites : Obligations.CopyParameterWrites := by
  intro p w s hr
  refine ⟨?src, ?dst, fun h => ?count, fun h => ?countRefused, portOf (w.extractLsb' 8 2), rfl, ?notice⟩
  case src => exact windowCommand_answer hr (done_modCopy_begin _ _)
  case dst => exact windowCommand_answer hr (done_modCopy_begin _ _)
  case count => exact windowCommand_answer hr ((if_pos h).trans (done_modCopy_begin _ _))
  case countRefused =>
    exact windowCommand_answer hr ((if_neg (Nat.not_le.mpr h)).trans (badValue_begin .copyCount))
  case notice =>
    rw [← byteField_eq]
    exact windowCommand_answer hr (done_modCopy_begin _ _)

/-! ### Causes and the fault queue -/

theorem getLsbD_causeBit_revoked (k : Fin 7) : (causeBit .revoked).getLsbD k.val = (k.val == 1) := by
  fin_cases k <;> rfl

/-- Ones clear their causes, REVOKED only while the revoked set is empty (R170, R171). -/
theorem getLsbD_cleared (causes : BitVec 7) (revoked : BitVec 32) (k : Fin 7) :
    (causes &&& ~~~ clearable revoked (causesField w)).getLsbD k.val =
      (causes.getLsbD k.val && !(w.getLsbD k.val && (k.val != 1 || revoked == 0))) := by
  have hfield : (causesField w).getLsbD k.val = w.getLsbD k.val := by simp [causesField, -BitVec.getLsbD_eq_getElem]
  rw [BitVec.getLsbD_and, BitVec.getLsbD_not, clearable, decide_eq_true k.isLt, Bool.true_and]
  by_cases hrev : revoked = 0
  · simp [hrev, hfield, -BitVec.getLsbD_eq_getElem]
  · rw [if_neg hrev, BitVec.getLsbD_and, BitVec.getLsbD_not, hfield, getLsbD_causeBit_revoked,
      decide_eq_true k.isLt, beq_false_of_ne hrev]
    simp [bne]

theorem getLsbD_lowOnes (l : LockId) : (lowOnes w).getLsbD l.val = (decide (l.val < 16) && w.getLsbD l.val) := by
  rw [lowOnes, BitVec.getLsbD_append]
  by_cases h : l.val < 16 <;> simp [h]

theorem getLsbD_highOnes (l : LockId) : (highOnes w).getLsbD l.val = (decide (16 ≤ l.val) && w.getLsbD (l.val - 16)) := by
  rw [highOnes, BitVec.getLsbD_append]
  by_cases h : l.val < 16 <;> simp [h, Nat.not_le.mpr, Nat.not_lt.mp]

theorem and_ne_zero_iff {n : Nat} (x y : BitVec n) :
    (x &&& y) ≠ 0 ↔ ∃ k : Fin n, x.getLsbD k.val = true ∧ y.getLsbD k.val = true := by
  constructor
  · intro h
    by_contra hno
    refine h (BitVec.eq_of_getLsbD_eq fun i hi => ?_)
    have hi' : ¬ (x.getLsbD i = true ∧ y.getLsbD i = true) := fun hxy => hno ⟨⟨i, hi⟩, hxy⟩
    simpa using hi'
  · rintro ⟨k, hx, hy⟩ h0
    have hk : (x &&& y).getLsbD k.val = true := by rw [BitVec.getLsbD_and, hx, hy, Bool.and_self]
    simp [h0] at hk

/-- Settles O42 (R14, R170, R171, R173, R174, R180). -/
theorem causeAndFaultWrites : Obligations.CauseAndFaultWrites := by
  refine ⟨fun p w s hr => ⟨⟨_, ?cause, getLsbD_cleared (s.port p).intr.causes (s.port p).lock.revoked⟩, ?mask,
    ⟨_, windowCommand_answer hr (done_modLockPort_begin _ _), fun l => ?lo⟩,
    ⟨_, windowCommand_answer hr (done_modLockPort_begin _ _), fun l => ?hi⟩, ?pop, ?overrun⟩, fun p s => ?nint⟩
  case cause =>
    refine windowCommand_answer hr ?_
    simp only [writeIntCause, port_begin_self, done_modIntr_begin]
    rfl
  case mask =>
    have hfield : causesField w = w.setWidth 7 := by ext i hi; simp [causesField]
    rw [← hfield]
    exact windowCommand_answer hr (done_modIntr_begin _ _)
  case lo => rw [BitVec.getLsbD_and, BitVec.getLsbD_not, getLsbD_lowOnes, decide_eq_true l.isLt, Bool.true_and]
  case hi => rw [BitVec.getLsbD_and, BitVec.getLsbD_not, getLsbD_highOnes, decide_eq_true l.isLt, Bool.true_and]
  case pop =>
    simp only [List.drop_one]
    exact windowCommand_answer hr (done_modIntr_begin _ _)
  case overrun => exact windowCommand_answer hr (done_modIntr_begin _ _)
  case nint =>
    rw [← and_ne_zero_iff]
    simp [State.nintLow, and_assoc]

/-! ### Register cycles without a command of their own -/

theorem windowCommand_badValue (hr : Ready s p) {r : Reg} {off : Word} {c : BusCycle}
    (hoff : BitVec.ofNat 16 (regOffset r) = off) :
    windowCommand p c (badValue p r w) s = .next (settle (s.refused p .badValue off (.write w) none none)) := by
  subst hoff
  refine windowCommand_answer hr ?_
  rw [badValue_begin, byteOffset_regAddr]

theorem lockCode_unnamed_badValue (h : lockCode w = 0 ∨ lockCode w = 7) :
    writeLockCmd p w = badValue p .lockCmd w := by
  rcases h with h | h <;> simp [writeLockCmd, h]

/-- A read of a register without a read of its own answers the register's value. -/
theorem readRegister_value {r : Reg} (h : r ∉ [Reg.data, .xchg, .fadd, .inHead, .inData]) :
    readRegister p r s = done p (some (registerValue s p r)) s := by
  cases r <;> simp at h <;> rfl

/-- A begun cycle shows in no register. -/
theorem registerValue_begin (r : Reg) : registerValue (modBus p (fun _ => Bus.begin) s) p r = registerValue s p r := by
  cases r
  case peers =>
    have hattach : ∀ q, ((modBus p (fun _ => Bus.begin) s).port q).attach = (s.port q).attach := by
      intro q
      rw [modBus_begin_eq, port_setPort]
      split
      next h => rw [h]
      next => rfl
    simp [registerValue, peersWord, hattach]
  case portId | heldLo | heldHi | tick | holdLimit | failWord | orphan | ranks | defaultRights => rfl
  case copyStatus | copyMoved =>
    simp [registerValue, copyStatusWord, State.shownJobState, State.shownMoved, State.jobsAhead, State.jobOf,
      modBus_begin_eq]
  all_goals simp [registerValue]

theorem writeCommand_unnamed (h : lowCode w = 0 ∨ lowCode w = 3) :
    writeDescCmd p w = badValue p .descCmd w ∧ writeInCtrl p w = badValue p .inCtrl w ∧
      writeCopyCmd p w = badValue p .copyCmd w ∧ writeFaultCtrl p w = badValue p .faultCtrl w ∧
      writePortState p w = badValue p .portState w := by
  rcases h with h | h <;> simp [writeDescCmd, writeInCtrl, writeCopyCmd, writeFaultCtrl, writePortState, h]

theorem writeOutCmd_unnamed (h : highCode w = 0 ∨ highCode w = 3) : writeOutCmd p w = badValue p .outCmd w := by
  rcases h with h | h <;> simp [writeOutCmd, h]

theorem writePortCmd_unnamed (h : highCode w ≠ 1) :
    writePortCmd p w = configWrite p .portCmd w (badValue p .portCmd w) := by
  unfold writePortCmd
  split
  next hcode => exact absurd hcode h
  next => rfl

/-- An unassigned offset (R210). -/
theorem windowAccess_unassigned {addr : BitVec 6} {op : CycleOp} (h : 0x33 ≤ addr.toNat) :
    windowAccess p ⟨addr, op⟩ = refuseCycle p .unassigned ⟨addr, op⟩ none none := by
  simp [windowAccess, (regAt_eq_none_iff addr).mpr h]

/-- Settles O43 (R209, R210). -/
theorem registerCycles : Obligations.RegisterCycles := by
  intro p w s hr
  refine ⟨fun r h => ?read, fun r h => ?writeOnly, fun ro h => ?readOnly, fun h => ?lockCmd, fun h => ?lowCodes,
    fun h => ?outCmd, fun hp h => ?portCmd, fun addr op h => ?unassigned⟩
  case read =>
    refine windowCommand_answer hr ?_
    rw [registerAccess, readRegister_value h, registerValue_begin, done_begin]
  case writeOnly =>
    simp only [List.mem_cons, List.not_mem_nil, or_false] at h
    rcases h with rfl | rfl | rfl | rfl | rfl | rfl <;> rfl
  case readOnly =>
    simp only [List.mem_cons, List.not_mem_nil, or_false] at h
    rcases h with rfl | rfl | rfl | rfl | rfl | rfl | rfl | rfl | rfl | rfl | rfl | rfl | rfl | rfl | rfl | rfl |
      rfl | rfl <;> exact windowCommand_badValue hr rfl
  case lockCmd =>
    have hbad : registerAccess p .lockCmd (.write w) = badValue p .lockCmd w := lockCode_unnamed_badValue h
    exact (congrArg (windowCommand p _ · s) hbad).trans (windowCommand_badValue hr rfl)
  case lowCodes =>
    obtain ⟨hdesc, hin, hcopy, hfault, hport⟩ := writeCommand_unnamed (p := p) h
    exact ⟨(congrArg (windowCommand p _ · s) hdesc).trans (windowCommand_badValue hr rfl),
      (congrArg (windowCommand p _ · s) hin).trans (windowCommand_badValue hr rfl),
      (congrArg (windowCommand p _ · s) hcopy).trans (windowCommand_badValue hr rfl),
      (congrArg (windowCommand p _ · s) hfault).trans (windowCommand_badValue hr rfl),
      (congrArg (windowCommand p _ · s) hport).trans (windowCommand_badValue hr rfl)⟩
  case outCmd => exact (congrArg (windowCommand p _ · s) (writeOutCmd_unnamed h)).trans (windowCommand_badValue hr rfl)
  case portCmd =>
    refine (congrArg (windowCommand p _ · s) (writePortCmd_unnamed h)).trans ?_
    exact windowCommand_config hr hp (badValue_begin .portCmd)
  case unassigned =>
    refine windowCommand_answer hr ?_
    rw [windowAccess_unassigned h, refuseCycle_begin]

end Sys2Proof.Machine
end

section
/-! The region table and the rotation: the governing descriptor as a least one, the ordered access check, the distance
that falls with every grant, and what a rotation grant does. -/

namespace Sys2Proof.Machine

variable {p q : PortId} {l : LockId} {s t : State}

/-! ### The governing descriptor (R62) -/

theorem covers_iff {d : Descriptor} {a : Nat} : d.covers a = true ↔
    d.enabled = true ∧ d.base.toNat ≤ a ∧ a < d.base.toNat + 2 ^ d.sizeCode.toNat := by
  simp [Descriptor.covers, and_assoc]

/-- Descriptor `d` goes before `e`: of smaller size, or of the same size and not of a higher number. -/
def State.goesBefore (s : State) (d e : DescId) : Prop :=
  (s.desc d).sizeCode.toNat < (s.desc e).sizeCode.toNat ∨ ((s.desc d).sizeCode = (s.desc e).sizeCode ∧ d ≤ e)

theorem goesBefore_refl (d : DescId) : s.goesBefore d d := .inr ⟨rfl, le_rfl⟩

theorem goesBefore_antisymm {d e : DescId} (h : s.goesBefore d e) (h' : s.goesBefore e d) : d = e := by
  rcases h with h | ⟨hsize, h⟩ <;> rcases h' with h' | ⟨hsize', h'⟩
  · omega
  · rw [hsize'] at h; omega
  · rw [hsize] at h'; omega
  · exact le_antisymm h h'

theorem goesBefore_trans {d e f : DescId} (h : s.goesBefore d e) (h' : s.goesBefore e f) : s.goesBefore d f := by
  rcases h with h | ⟨hsize, h⟩ <;> rcases h' with h' | ⟨hsize', h'⟩
  · exact .inl (h.trans h')
  · exact .inl (hsize' ▸ h)
  · exact .inl (hsize ▸ h')
  · exact .inr ⟨hsize.trans hsize', h.trans h'⟩

/-- What a scan of the descriptors `ds` has found: the covering one that goes before the other covering ones. -/
def State.GovernsAmong (s : State) (a : Nat) (ds : List DescId) : Option DescId → Prop
  | none => ∀ d ∈ ds, (s.desc d).covers a = false
  | some d => (s.desc d).covers a = true ∧ ∀ e ∈ ds, (s.desc e).covers a = true → s.goesBefore d e

/-- One step of the scan that resolves the governing descriptor. -/
def State.scan (s : State) (a : Nat) (best : Option DescId) (d : DescId) : Option DescId :=
  if (s.desc d).covers a then
    match best with
    | none => some d
    | some b => if (s.desc d).sizeCode.toNat < (s.desc b).sizeCode.toNat then some d else some b
  else best

theorem governing_eq_scan (a : Nat) : s.governing a = allDescs.foldl (s.scan a) none := rfl

theorem governsAmong_step {a : Nat} {ds : List DescId} {best : Option DescId} {d : DescId}
    (h : s.GovernsAmong a ds best) (hb : ∀ b, best = some b → b < d) : s.GovernsAmong a (ds ++ [d]) (s.scan a best d) := by
  unfold State.scan
  by_cases hd : (s.desc d).covers a = true
  · rw [if_pos hd]
    cases best with
    | none =>
      refine ⟨hd, fun e he hcov => ?_⟩
      rcases List.mem_append.mp he with he | he
      · simp [h e he] at hcov
      · rw [List.mem_singleton.mp he]; exact goesBefore_refl d
    | some b =>
      obtain ⟨hcb, hleast⟩ := h
      have hlt : b < d := hb b rfl
      dsimp only
      split
      next hsmall =>
        refine ⟨hd, fun e he hcov => ?_⟩
        rcases List.mem_append.mp he with he | he
        · exact goesBefore_trans (.inl hsmall) (hleast e he hcov)
        · rw [List.mem_singleton.mp he]; exact goesBefore_refl d
      next hsmall =>
        refine ⟨hcb, fun e he hcov => ?_⟩
        rcases List.mem_append.mp he with he | he
        · exact hleast e he hcov
        · rw [List.mem_singleton.mp he]
          rcases Nat.lt_or_eq_of_le (Nat.not_lt.mp hsmall) with hsize | hsize
          · exact .inl hsize
          · exact .inr ⟨BitVec.eq_of_toNat_eq hsize, hlt.le⟩
  · rw [if_neg hd]
    have hd' : (s.desc d).covers a = false := by simpa using hd
    cases best with
    | none =>
      intro e he
      rcases List.mem_append.mp he with he | he
      · exact h e he
      · rw [List.mem_singleton.mp he]; exact hd'
    | some b =>
      refine ⟨h.1, fun e he hcov => ?_⟩
      rcases List.mem_append.mp he with he | he
      · exact h.2 e he hcov
      · rw [List.mem_singleton.mp he, hd'] at hcov; cases hcov

/-- The scan finds a descriptor of its list. -/
theorem scan_mem (a : Nat) (ds : List DescId) : ∀ b, ds.foldl (s.scan a) none = some b → b ∈ ds := by
  induction ds using List.reverseRecOn with
  | nil => simp
  | append_singleton ds d ih =>
    intro b hb
    rw [List.foldl_concat] at hb
    unfold State.scan at hb
    rw [List.mem_append, List.mem_singleton]
    split at hb
    · split at hb
      · exact .inr (Option.some.inj hb).symm
      next b' hb' =>
        split at hb
        · exact .inr (Option.some.inj hb).symm
        · exact .inl (ih b (hb'.trans hb))
    · exact .inl (ih b hb)

theorem governsAmong_foldl (a : Nat) (ds : List DescId) (h : ds.Pairwise (· < ·)) :
    s.GovernsAmong a ds (ds.foldl (s.scan a) none) := by
  induction ds using List.reverseRecOn with
  | nil => simp [State.GovernsAmong]
  | append_singleton ds d ih =>
    obtain ⟨hds, -, hlast⟩ := List.pairwise_append.mp h
    rw [List.foldl_concat]
    exact governsAmong_step (ih hds) fun b hb => hlast b (scan_mem a ds b hb) d (by simp)

theorem mem_allDescs (d : DescId) : d ∈ allDescs := by
  fin_cases d <;> simp [allDescs]

theorem governsAmong_governing (a : Nat) : s.GovernsAmong a allDescs (s.governing a) := by
  rw [governing_eq_scan]
  exact governsAmong_foldl a allDescs (by simp [allDescs])

/-- Settles O21: the scan in number order finds the covering descriptor that goes before every other. -/
theorem governingDescriptor : Obligations.GoverningDescriptor := by
  intro s a
  have hspec := governsAmong_governing (s := s) a
  simp only [← covers_iff]
  refine ⟨⟨fun h d hd => ?none, fun h => ?noneConverse⟩, fun d => ⟨fun h => ?some, fun h => ?someConverse⟩⟩
  case none =>
    rw [h] at hspec
    simp [hspec d (mem_allDescs d)] at hd
  case noneConverse =>
    cases hg : s.governing a with
    | none => rfl
    | some d => rw [hg] at hspec; exact absurd hspec.1 (h d)
  case some =>
    rw [h] at hspec
    exact ⟨hspec.1, fun e => hspec.2 e (mem_allDescs e)⟩
  case someConverse =>
    obtain ⟨hcov, hleast⟩ := h
    cases hg : s.governing a with
    | none => rw [hg] at hspec; simp [hspec d (mem_allDescs d)] at hcov
    | some e =>
      rw [hg] at hspec
      rw [goesBefore_antisymm (hspec.2 d (mem_allDescs d) hcov) (hleast e hspec.1)]

/-! ### The access check (R64 to R67) -/

theorem permits_iff {b : BitVec 2} {x : AccessType} : permits b x = true ↔ b = 2 ∨ (b = 1 ∧ x = .read) := by
  simp [permits]

theorem check_unbacked {x : AccessType} {a : Word} (h : 0x8000 ≤ a.toNat) : s.check p x a = .noStore := if_pos h

theorem check_rights {x : AccessType} {a : Word} (h : a.toNat < 0x8000)
    (hno : permits (s.applicableRights p a.toNat) x = false) : s.check p x a = .rights (s.governing a.toNat) := by
  have hbacked : ¬ Config.storeWords ≤ a.toNat := Nat.not_le.mpr h
  rw [State.check, if_neg hbacked, hno]
  rfl

theorem check_ungoverned {x : AccessType} {a : Word} (h : a.toNat < 0x8000)
    (hyes : permits (s.applicableRights p a.toNat) x = true) (hg : s.governing a.toNat = none) :
    s.check p x a = .permitted := by
  have hbacked : ¬ Config.storeWords ≤ a.toNat := Nat.not_le.mpr h
  rw [State.check, if_neg hbacked, if_pos hyes, hg]

theorem check_governed {x : AccessType} {a : Word} {d : DescId} (h : a.toNat < 0x8000)
    (hyes : permits (s.applicableRights p a.toNat) x = true) (hg : s.governing a.toNat = some d) :
    s.check p x a = s.checkGuard p x d := by
  have hbacked : ¬ Config.storeWords ≤ a.toNat := Nat.not_le.mpr h
  rw [State.check, if_neg hbacked, if_pos hyes, hg]

theorem guardFor_some {d : Descriptor} {x : AccessType} (h : d.guardPresent = true ∧ (d.scopeAll = true ∨ x ≠ .read)) :
    d.guardFor x = some (lockOf d.guardLock) := by
  refine if_pos ?_
  simpa using h

theorem guardFor_none {d : Descriptor} {x : AccessType} (h : ¬ (d.guardPresent = true ∧ (d.scopeAll = true ∨ x ≠ .read))) :
    d.guardFor x = none := by
  refine if_neg ?_
  simpa using h

/-- Settles O22: the three steps in their order, each by the equation of `check` for it. -/
theorem accessCheckOrder : Obligations.AccessCheckOrder := by
  intro s p x a value allowed
  have hallowed : permits (s.applicableRights p a.toNat) x = true ↔ allowed := permits_iff
  refine ⟨check_unbacked, fun ha hno => ?rights, fun ha hyes => ⟨fun hg => ?ungoverned, fun d hg => ?guard⟩⟩
  case rights => exact check_rights ha (Bool.eq_false_iff.mpr (mt hallowed.mp hno))
  case ungoverned => exact check_ungoverned ha (hallowed.mpr hyes) hg
  case guard =>
    have hcheck : s.check p x a = s.checkGuard p x d := check_governed ha (hallowed.mpr hyes) hg
    refine ⟨fun hno => ?_, fun hguard hheld => ?_, fun hguard hheld => ?_⟩
    · rw [hcheck, State.checkGuard, guardFor_none hno]
    · rw [hcheck, State.checkGuard, guardFor_some hguard]
      exact if_pos hheld
    · rw [hcheck, State.checkGuard, guardFor_some hguard]
      exact if_neg hheld

/-! ### The rotation (R106, R107) -/

/-- The place of a requester in the rotation: the ports in number order and then the copy engine. -/
def Requester.place : Requester → Nat
  | .port p => p.val
  | .copyEngine => 4

theorem place_le (r : Requester) : r.place ≤ 4 := by
  cases r with
  | port p => exact p.isLt.le
  | copyEngine => exact le_rfl

theorem place_injective : Function.Injective Requester.place := by
  intro r x h
  cases r with
  | port p =>
    cases x with
    | port q => exact congrArg Requester.port (Fin.ext h)
    | copyEngine => exact absurd h (Nat.ne_of_lt p.isLt)
  | copyEngine =>
    cases x with
    | port q => exact absurd h.symm (Nat.ne_of_lt q.isLt)
    | copyEngine => rfl

theorem rotationDistance_eq (pos r : Requester) : rotationDistance pos r = (r.place + 4 - pos.place) % 5 := by
  cases pos <;> cases r <;> rfl

theorem rotationDistance_le (pos r : Requester) : rotationDistance pos r ≤ 4 := by
  rw [rotationDistance_eq]
  omega

theorem rotationDistance_injective {pos r x : Requester} (h : rotationDistance pos r = rotationDistance pos x) : r = x := by
  simp only [rotationDistance_eq] at h
  have hpos := place_le pos
  have hr := place_le r
  have hx := place_le x
  exact place_injective (by omega)

/-- The requester that is passed over stands nearer to the next position. -/
theorem rotationDistance_lt {pos r g : Requester} (h : rotationDistance pos g ≤ rotationDistance pos r) (hne : r ≠ g) :
    rotationDistance g r < rotationDistance pos r := by
  have hplace : r.place ≠ g.place := fun he => hne (place_injective he)
  simp only [rotationDistance_eq] at h ⊢
  have hpos := place_le pos
  have hr := place_le r
  have hg := place_le g
  omega

theorem mem_rotationAfter (pos r : Requester) : r ∈ rotationAfter pos := by
  cases pos with
  | port p => fin_cases p <;> cases r with
    | port q => fin_cases q <;> simp [rotationAfter]
    | copyEngine => simp [rotationAfter]
  | copyEngine =>
    cases r with
    | port q => fin_cases q <;> simp [rotationAfter]
    | copyEngine => simp [rotationAfter]

/-- The rotation lists the requesters by their distance. -/
theorem pairwise_rotationAfter (pos : Requester) :
    (rotationAfter pos).Pairwise fun r x => rotationDistance pos r < rotationDistance pos x := by
  cases pos with
  | port p => fin_cases p <;> simp [rotationAfter, rotationDistance]
  | copyEngine => simp [rotationAfter, rotationDistance]

theorem nextGrant_eq_none_iff : s.nextGrant = none ↔ ∀ r, s.requests r = false := by
  simp only [State.nextGrant, List.find?_eq_none, Bool.not_eq_true]
  exact ⟨fun h r => h r (mem_rotationAfter s.rotation r), fun h r _ => h r⟩

/-- The next grant goes to a requester, and to none that stands farther than another. -/
theorem nextGrant_least {r : Requester} (h : s.nextGrant = some r) :
    s.requests r = true ∧ ∀ x, s.requests x = true → rotationDistance s.rotation r ≤ rotationDistance s.rotation x := by
  obtain ⟨hr, us, vs, hlist, hus⟩ := List.find?_eq_some_iff_append.mp h
  refine ⟨hr, fun x hx => ?_⟩
  have hsorted := pairwise_rotationAfter s.rotation
  have hmem := mem_rotationAfter s.rotation x
  rw [hlist] at hsorted hmem
  rcases List.mem_append.mp hmem with hx' | hx'
  · simpa [hx] using hus x hx'
  · rcases List.mem_cons.mp hx' with hx' | hx'
    · rw [hx']
    · exact ((List.pairwise_cons.mp (List.pairwise_append.mp hsorted).2.1).1 x hx').le

/-- Settles O27. -/
theorem rotationOrder : Obligations.RotationOrder := by
  intro s
  refine ⟨nextGrant_eq_none_iff, fun r => ⟨nextGrant_least, fun ⟨hr, hleast⟩ => ?converse⟩,
    fun r g hg hr hne => ?nearer, rotationDistance_le s.rotation⟩
  case converse =>
    cases hg : s.nextGrant with
    | none => simp [nextGrant_eq_none_iff.mp hg r] at hr
    | some g =>
      obtain ⟨hg', hleast'⟩ := nextGrant_least hg
      rw [rotationDistance_injective (le_antisymm (hleast g hg') (hleast' r hr))]
  case nearer => exact rotationDistance_lt ((nextGrant_least hg).2 r hr) hne

/-! ### A rotation grant -/

/-- The state of a granted port whose request has left the arbiter (R100, R106). -/
def State.granting (s : State) (p : PortId) : State :=
  setPort p { s.port p with engine := { (s.port p).engine with request := none } } { s with rotation := .port p }

/-- A grant changes neither the records that a check reads nor its answer. -/
theorem check_granting (x : AccessType) (a : Word) : (s.granting p).check q x a = s.check q x a := rfl

theorem port_granting : (s.granting p).port p = { s.port p with engine := { (s.port p).engine with request := none } } := by
  simp [State.granting]

section
variable {a : HostAccess} (hn : s.nrst = false) (hg : s.nextGrant = some (.port p))
  (ha : (s.port p).engine.request = some a)
include hn hg ha

theorem exec_rotationGrant_served (h : serveAccess p a (s.granting p) = t) :
    exec .rotationGrant s = .next (settle t) := by
  rw [rotationGrant_eq p s a hn hg ha, ← h]
  rfl

theorem exec_rotationGrant_permitted (hc : s.check p a.type (s.port p).engine.ptr = .permitted) :
    exec .rotationGrant s = .next (settle ((s.granting p).accessMade p a (s.port p).engine.ptr)) := by
  refine exec_rotationGrant_served hn hg ha ?_
  simp only [serveAccess, port_granting, check_granting, hc, completeAccess_made]

end

/-- What a permitted access leaves at each word of the store (R93, R101 to R104). -/
theorem storeRead_stored {m : Store} (hm : storeWf m) (a : HostAccess) (opnd : Word) (addr b : Nat) :
    storeRead (a.stored opnd addr m) b =
      if b = addr then
        match a with
        | .read => storeRead m b
        | .write w => w
        | .xchg => opnd
        | .fadd => storeRead m b + opnd
      else storeRead m b := by
  cases a with
  | read => simp [HostAccess.stored]
  | write w => exact storeRead_storeWrite m hm.1 addr b w
  | xchg => exact storeRead_storeWrite m hm.1 addr b opnd
  | fadd =>
    simp only [HostAccess.stored, storeRead_storeWrite m hm.1]
    split
    next h => rw [h]
    next => rfl

theorem store_accessMade_granting (a : HostAccess) (addr : Word) :
    ((s.granting p).accessMade p a addr).store = a.stored (s.port p).engine.opnd addr.toNat s.store := by
  simp [State.accessMade, State.granting]

/-- Settles O24. -/
theorem rotationGrantPermitted : Obligations.RotationGrantPermitted := by
  intro p a s hn hg ha hc
  refine ⟨exec_rotationGrant_permitted hn hg ha hc, fun hstore b => ?_⟩
  have hread := storeRead_stored hstore a (s.port p).engine.opnd (s.port p).engine.ptr.toNat b
  rw [← store_accessMade_granting] at hread
  exact hread

/-- Settles O25: each refusal by its arm of `serveAccess`; otherwise no host grant is made. -/
theorem rotationGrantRefused : Obligations.RotationGrantRefused := by
  refine ⟨fun p a s hn hg ha => ⟨fun hc => ?noStore, fun d hc => ?rights, fun d l hc => ?guard⟩, fun s h => ?none⟩
  case none =>
    rcases h with h | h | h
    · simp [exec, execRotationGrant, eventCommand, whileRunning, grantNext, h]
    · simp [exec, execRotationGrant, eventCommand, whileRunning, grantNext, h]
    · simp [exec, execRotationGrant, eventCommand, whileRunning, h]
  all_goals
    refine exec_rotationGrant_served hn hg ha ?_
    simp only [serveAccess, port_granting, check_granting, hc, refuseAccess_refused]
    rfl

/-! ### The claim procedure (R74 to R78) -/

theorem isWaiting_granting : ((s.granting p).port p).lock = (s.port p).lock := by rw [port_granting]

theorem serveAccess_claims {a : HostAccess} {d : DescId} (hc : s.check p a.type (s.port p).engine.ptr = .guarded d l true) :
    serveAccess p a (s.granting p) = claim p a (s.port p).engine.ptr d l (s.granting p) := by
  simp only [serveAccess, port_granting, check_granting, hc]

/-- A claim of a FREE lock: the grant, and the access in the same event (R77). -/
theorem claim_free {a : HostAccess} {addr : Word} {d : DescId} (hw : (s.port p).lock.request.isWaiting = false)
    (hroom : (s.heldLocks p).length < 8) (hfree : (s.lock l).state = .free) :
    claim p a addr d l s = State.accessMade (setPort p { s.port p with
      lock := { (s.port p).lock with request := .granted l .claim }
      intr := (s.port p).intr.raised .lockOutcome } (setLock l ((s.lock l).granted p (s.lock l).waiters) s)) p a addr := by
  have hroom' : ¬ Config.holdMax ≤ (s.heldLocks p).length := Nat.not_le.mpr hroom
  rw [claim, if_neg (by simp [hw]), if_neg hroom', if_pos hfree, ← completeAccess_made]
  simp only [grantLock_eq, writeRequest_eq, setCause_eq, port_setLock, port_setPort_self, setPort_setPort]
  rfl

/-- A claim that enters the wait list: the access is held, and the cycle stays open (R78). -/
theorem claim_held {a : HostAccess} {addr : Word} {d : DescId} (hw : (s.port p).lock.request.isWaiting = false)
    (hroom : (s.heldLocks p).length < 8) (hfree : (s.lock l).state ≠ .free) :
    claim p a addr d l s = setPort p { s.port p with
      lock := { (s.port p).lock with request := .waiting l .claim }
      held := some { access := a, address := addr, lock := l, desc := d }
      bus := { (s.port p).bus with phase := .claim } }
      (setLock l { s.lock l with
        waiters := insertWaiter (s.lock l).policy
          { port := p, kind := .claim, rank := fieldOf s.ranks p
            patience := if s.holdLimit = 0 then .stopped else .running s.holdLimit } (s.lock l).waiters } s) := by
  have hroom' : ¬ Config.holdMax ≤ (s.heldLocks p).length := Nat.not_le.mpr hroom
  rw [claim, if_neg (by simp [hw]), if_neg hroom', if_neg hfree]
  simp only [holdAccess, enterWait, modLock_eq, writeRequest_eq, setHeld_eq, modBus_eq, port_setLock, port_setPort_self,
    setPort_setPort]
  rfl

/-- Settles O26: the four cases of R74 in their order. -/
theorem claimOutcomes : Obligations.ClaimOutcomes := by
  intro p a d l s hn hg ha hc
  refine ⟨fun hw => ?conflict, fun hw hfull => ?limit, fun hw hroom hfree => ?free, fun hw hroom hfree => ?held⟩ <;>
    refine exec_rotationGrant_served hn hg ha ((serveAccess_claims hc).trans ?_)
  case conflict => rw [claim, isWaiting_granting, if_pos hw, refuseAccess_refused]; rfl
  case limit =>
    have hfull' : Config.holdMax ≤ ((s.granting p).heldLocks p).length := hfull
    rw [claim, isWaiting_granting, if_neg (by simp [hw]), if_pos hfull', refuseAccess_refused]
    rfl
  case free =>
    rw [claim_free (s := s.granting p) (by rwa [isWaiting_granting]) hroom hfree, port_granting]
    simp [State.granting]
  case held =>
    rw [claim_held (s := s.granting p) (by rwa [isWaiting_granting]) hroom hfree, port_granting]
    simp [State.granting]
    rfl

end Sys2Proof.Machine
end

section
/-! Lock commands, handovers, expiries and ticks. A handover may complete the cycle of the port whose command it answers;
`Rebused` says that this cycle's end leaves only the bus of that port in doubt, which the answer then settles. -/

namespace Sys2Proof.Machine

variable {p q : PortId} {l : LockId} {s t : State}

/-! ### States that differ at a bus about to be answered -/

/-- `t` is `s` but for the bus of port `p`, whose host is there and has started no further cycle. -/
def Rebused (p : PortId) (s t : State) : Prop :=
  ∃ b : Bus, b.strobe = true ∧ b.next = none ∧ t = setPort p { s.port p with bus := b } s

theorem rebused_begin : Rebused p s (modBus p (fun _ => Bus.begin) s) := ⟨Bus.begin, rfl, rfl, rfl⟩

theorem Rebused.lock (h : Rebused p s t) (m : LockId) : t.lock m = s.lock m := by
  obtain ⟨b, -, -, rfl⟩ := h
  rfl

theorem Rebused.check (h : Rebused p s t) (q : PortId) (x : AccessType) (a : Word) : t.check q x a = s.check q x a := by
  obtain ⟨b, -, -, rfl⟩ := h
  rfl

/-- But for the bus of `p` the ports have the same records. -/
theorem Rebused.port (h : Rebused p s t) (q : PortId) : ∃ b : Bus, t.port q = { s.port q with bus := b } := by
  obtain ⟨b, -, -, rfl⟩ := h
  by_cases hq : q = p
  · subst hq; exact ⟨b, by simp⟩
  · exact ⟨(s.port q).bus, by simp [hq]⟩

theorem Rebused.held (h : Rebused p s t) (q : PortId) : (t.port q).held = (s.port q).held := by
  obtain ⟨b, hb⟩ := h.port q
  rw [hb]

/-- A change of one port's record that treats the bus apart and keeps a bus about to be answered. -/
theorem Rebused.modPort (h : Rebused p s t) (q : PortId) {f : PortRecord → PortRecord}
    (hf : ∀ (r : PortRecord) (b : Bus), b.strobe = true → b.next = none →
      ∃ b' : Bus, b'.strobe = true ∧ b'.next = none ∧ f { r with bus := b } = { f r with bus := b' }) :
    Rebused p (modPort q f s) (modPort q f t) := by
  obtain ⟨b, hst, hn, rfl⟩ := h
  by_cases hq : q = p
  · subst hq
    obtain ⟨b', hst', hn', hb'⟩ := hf (s.port q) b hst hn
    exact ⟨b', hst', hn', by simp [Machine.modPort, hb']⟩
  · exact ⟨b, hst, hn, by simp [Machine.modPort, hq, Ne.symm hq, setPort_comm q p s _ _ hq]⟩

/-- A change of one port's record that does not touch the bus. -/
theorem Rebused.modPort_of_bus (h : Rebused p s t) (q : PortId) {f : PortRecord → PortRecord}
    (hf : ∀ (r : PortRecord) (b : Bus), f { r with bus := b } = { f r with bus := b }) :
    Rebused p (Machine.modPort q f s) (Machine.modPort q f t) :=
  h.modPort q fun r b hst hn => ⟨b, hst, hn, hf r b⟩

theorem Rebused.modEngine (h : Rebused p s t) (q : PortId) (f : Engine → Engine) :
    Rebused p (modEngine q f s) (modEngine q f t) :=
  h.modPort_of_bus q (f := fun r => { r with engine := f r.engine }) fun _ _ => rfl

theorem Rebused.modLockPort (h : Rebused p s t) (q : PortId) (f : LockPortRecord → LockPortRecord) :
    Rebused p (modLockPort q f s) (modLockPort q f t) :=
  h.modPort_of_bus q (f := fun r => { r with lock := f r.lock }) fun _ _ => rfl

theorem Rebused.modIntr (h : Rebused p s t) (q : PortId) (f : InterruptRecord → InterruptRecord) :
    Rebused p (modIntr q f s) (modIntr q f t) :=
  h.modPort_of_bus q (f := fun r => { r with intr := f r.intr }) fun _ _ => rfl

theorem Rebused.modMsg (h : Rebused p s t) (q : PortId) (f : MessagePortRecord → MessagePortRecord) :
    Rebused p (modMsg q f s) (modMsg q f t) :=
  h.modPort_of_bus q (f := fun r => { r with msg := f r.msg }) fun _ _ => rfl

theorem Rebused.modCopy (h : Rebused p s t) (q : PortId) (f : CopyPortRecord → CopyPortRecord) :
    Rebused p (modCopy q f s) (modCopy q f t) :=
  h.modPort_of_bus q (f := fun r => { r with copy := f r.copy }) fun _ _ => rfl

theorem Rebused.setHeld (h : Rebused p s t) (q : PortId) (x : Option HeldAccess) :
    Rebused p (setHeld q x s) (setHeld q x t) :=
  h.modPort_of_bus q (f := fun r => { r with held := x }) fun _ _ => rfl

theorem Rebused.completeCycle (h : Rebused p s t) (q : PortId) (data : Option Word) (err : Bool) :
    Rebused p (completeCycle q data err s) (completeCycle q data err t) :=
  h.modPort q (f := fun r => { r with bus := r.bus.complete data err })
    fun _ b hst hn => ⟨b.complete data err, by simp [hst], by simp [Bus.complete, hst, hn], rfl⟩

theorem Rebused.setLock (h : Rebused p s t) (m : LockId) (k : LockRecord) : Rebused p (setLock m k s) (setLock m k t) := by
  obtain ⟨b, hst, hn, rfl⟩ := h
  exact ⟨b, hst, hn, rfl⟩

theorem Rebused.setCause (h : Rebused p s t) (q : PortId) (c : Cause) : Rebused p (setCause q c s) (setCause q c t) :=
  h.modIntr q _

theorem Rebused.writeRequest (h : Rebused p s t) (q : PortId) (x : RequestRecord) :
    Rebused p (writeRequest q x s) (writeRequest q x t) :=
  h.modLockPort q _

theorem Rebused.offerFault (h : Rebused p s t) (q : PortId) (f : FaultRecord) :
    Rebused p (offerFault q f s) (offerFault q f t) :=
  (h.modIntr q _).setCause q .fault

theorem Rebused.store (h : Rebused p s t) : t.store = s.store := by
  obtain ⟨b, -, -, rfl⟩ := h
  rfl

theorem Rebused.failWord (h : Rebused p s t) : t.failWord = s.failWord := by
  obtain ⟨b, -, -, rfl⟩ := h
  rfl

theorem Rebused.engine (h : Rebused p s t) (q : PortId) : (t.port q).engine = (s.port q).engine := by
  obtain ⟨b, hb⟩ := h.port q
  rw [hb]

theorem Rebused.word (h : Rebused p s t) (a : Word) : t.word a = s.word a := by
  rw [State.word, State.word, h.store]

theorem Rebused.toStore (h : Rebused p s t) (a : HostAccess) (opnd old addr : Word) :
    Rebused p (a.toStore opnd old addr s) (a.toStore opnd old addr t) := by
  obtain ⟨b, hst, hn, rfl⟩ := h
  cases a <;> exact ⟨b, hst, hn, rfl⟩

/-- A permitted access at any port: what it reads of the engine and the store is the same. -/
theorem Rebused.completeAccess (h : Rebused p s t) (q : PortId) (a : HostAccess) (addr : Word) :
    Rebused p (completeAccess q a addr s) (completeAccess q a addr t) := by
  unfold Machine.completeAccess
  rw [h.engine q, h.word]
  exact ((h.toStore a _ _ addr).modEngine q advance).completeCycle q _ _

theorem Rebused.refuseAccess (h : Rebused p s t) (q : PortId) (a : HostAccess) (addr : Word) (k : FaultKind)
    (d : Option DescId) (m : Option LockId) :
    Rebused p (refuseAccess q a addr k d m s) (refuseAccess q a addr k d m t) := by
  unfold Machine.refuseAccess
  rw [h.failWord]
  exact (h.offerFault q _).completeCycle q _ _

theorem Rebused.recheckHeld (h : Rebused p s t) (q : PortId) : Rebused p (recheckHeld q s) (recheckHeld q t) := by
  unfold Machine.recheckHeld
  rw [h.held q]
  cases (s.port q).held with
  | none => exact h
  | some x =>
    have hset := h.setHeld q none
    dsimp only
    rw [h.check]
    cases s.check q x.access.type x.address with
    | permitted => exact hset.completeAccess q _ _
    | noStore => exact hset.refuseAccess q _ _ _ _ _
    | rights d => exact hset.refuseAccess q _ _ _ _ _
    | guarded d m c => exact hset.refuseAccess q _ _ _ _ _

theorem Rebused.handover (h : Rebused p s t) (l : LockId) : Rebused p (handover l s) (handover l t) := by
  cases hw : (s.lock l).waiters with
  | nil =>
    rw [handover_empty l s hw, handover_empty l t (by rw [h.lock, hw]), h.lock]
    exact h.setLock l _
  | cons w ws =>
    rw [handover_head l s w ws hw, handover_head l t w ws (by rw [h.lock, hw]), h.lock]
    have hgiven := ((h.setLock l { s.lock l with
      state := .held w.port, lease := Countdown.load (s.lock l).leasePeriod, waiters := ws }).writeRequest w.port
        (.granted l w.kind)).setCause w.port .lockOutcome
    split
    · exact hgiven.recheckHeld w.port
    · exact hgiven

theorem Rebused.revoke (h : Rebused p s t) (l : LockId) (q : PortId) : Rebused p (revoke l q s) (revoke l q t) :=
  ((h.modLockPort q _).setCause q .revoked).handover l

/-- The answer of the command settles the bus. -/
theorem Rebused.answerLock (h : Rebused p s t) (o : LockOutcome) : answerLock p o l t = s.lockAnswered p o l := by
  obtain ⟨b, hst, hn, rfl⟩ := h
  simp [Machine.answerLock, modLockPort_eq, done_eq, State.lockAnswered, State.after,
    bus_complete_answered b none false hn hst]

theorem Rebused.done (h : Rebused p s t) (data : Option Word) : done p data t = s.after p id data := by
  obtain ⟨b, hst, hn, rfl⟩ := h
  simp [done_eq, State.after, bus_complete_answered b data false hn hst]

/-! ### The place of a new waiter (R6, R7) -/

theorem insertByRank_eq (w : Waiter) (ws : List Waiter) (h : ws.Pairwise fun a b => b.rank.toNat ≤ a.rank.toNat) :
    insertByRank w ws = ws.filter (fun x => decide (w.rank.toNat ≤ x.rank.toNat)) ++
      w :: ws.filter (fun x => decide (x.rank.toNat < w.rank.toNat)) := by
  induction ws with
  | nil => rfl
  | cons x xs ih =>
    obtain ⟨hx, hxs⟩ := List.pairwise_cons.mp h
    by_cases hle : w.rank.toNat ≤ x.rank.toNat
    · simp [insertByRank, hle, Nat.not_lt.mpr hle, ih hxs]
    · have hlow : ∀ y ∈ xs, y.rank.toNat < w.rank.toNat := fun y hy => (hx y hy).trans_lt (Nat.not_le.mp hle)
      have hnone : xs.filter (fun y => decide (w.rank.toNat ≤ y.rank.toNat)) = [] := by
        simpa using fun y hy => hlow y hy
      have hall : xs.filter (fun y => decide (y.rank.toNat < w.rank.toNat)) = xs := by
        simpa using fun y hy => hlow y hy
      simp [insertByRank, hle, Nat.not_le.mp hle, hnone, hall]

theorem insertByRank_pairwise (w : Waiter) (ws : List Waiter) (h : ws.Pairwise fun a b => b.rank.toNat ≤ a.rank.toNat) :
    (insertByRank w ws).Pairwise fun a b => b.rank.toNat ≤ a.rank.toNat := by
  rw [insertByRank_eq w ws h]
  refine List.pairwise_append.mpr ⟨h.sublist List.filter_sublist, List.pairwise_cons.mpr
    ⟨fun x hx => ?_, h.sublist List.filter_sublist⟩, fun x hx y hy => ?_⟩
  · have hlow := (List.mem_filter.mp hx).2
    simp only [decide_eq_true_eq] at hlow
    exact hlow.le
  · have hhigh := (List.mem_filter.mp hx).2
    simp only [decide_eq_true_eq] at hhigh
    rcases List.mem_cons.mp hy with rfl | hy
    · exact hhigh
    · have hlow := (List.mem_filter.mp hy).2
      simp only [decide_eq_true_eq] at hlow
      exact hlow.le.trans hhigh

/-- Settles O12. -/
theorem waiterInsertion : Obligations.WaiterInsertion :=
  fun w ws => ⟨rfl, fun h => ⟨insertByRank_eq w ws h, insertByRank_pairwise w ws h⟩⟩

/-! ### Handovers (R23, R82, R83) -/

theorem handover_handedTo {w : Waiter} {ws : List Waiter} (h : (s.lock l).waiters = w :: ws) :
    handover l s = if w.kind = .claim then recheckHeld w.port (s.handedTo l w ws) else s.handedTo l w ws := by
  rw [handover_head l s w ws h]
  have hgiven : setCause w.port .lockOutcome (writeRequest w.port (.granted l w.kind)
      (setLock l { s.lock l with state := .held w.port, lease := Countdown.load (s.lock l).leasePeriod,
                                 waiters := ws } s)) = s.handedTo l w ws := by
    simp only [writeRequest_eq, setCause_eq, port_setLock, port_setPort_self, setPort_setPort]
    rfl
  rw [hgiven]
  split <;> rfl

theorem held_handedTo (w : Waiter) (ws : List Waiter) (q : PortId) : ((s.handedTo l w ws).port q).held = (s.port q).held := by
  by_cases hq : q = w.port
  · subst hq; simp [State.handedTo]
  · simp [State.handedTo, hq]

/-- The held access a recheck ends does not enter the check. -/
theorem check_setHeld (h : Option HeldAccess) (x : AccessType) (a : Word) : (setHeld p h s).check q x a = s.check q x a := rfl

section
variable {h : HeldAccess} (hh : (s.port p).held = some h)
include hh

theorem recheckHeld_permitted (hc : (setHeld p none s).check p h.access.type h.address = .permitted) :
    recheckHeld p s = (setHeld p none s).accessMade p h.access h.address := by
  rw [check_setHeld] at hc
  simp only [recheckHeld, hh, hc, completeAccess_made]

theorem recheckHeld_rights {d : Option DescId} (hc : (setHeld p none s).check p h.access.type h.address = .rights d) :
    recheckHeld p s = (setHeld p none s).accessRefused p h.access h.address .rights d none := by
  rw [check_setHeld] at hc
  simp only [recheckHeld, hh, hc, refuseAccess_refused]

theorem recheckHeld_guarded {d : DescId} {m : LockId} {c : Bool}
    (hc : (setHeld p none s).check p h.access.type h.address = .guarded d m c) :
    recheckHeld p s = (setHeld p none s).accessRefused p h.access h.address .guard (some d) (some m) := by
  rw [check_setHeld] at hc
  simp only [recheckHeld, hh, hc, refuseAccess_refused]

end

/-- Settles O13. -/
theorem handoverOutcome : Obligations.HandoverOutcome := by
  intro l s
  refine ⟨handover_empty l s, fun w ws hw => ⟨fun h => ?noRecheck, fun hk h hh => ?recheck⟩⟩
  case noRecheck =>
    rw [handover_handedTo hw]
    rcases h with h | h
    · rw [if_neg (by simp [h])]
    · rw [recheckHeld_absent _ _ (by rw [held_handedTo, h]), ite_self]
  case recheck =>
    have hheld : ((s.handedTo l w ws).port w.port).held = some h := by rw [held_handedTo, hh]
    rw [handover_handedTo hw, if_pos hk]
    exact ⟨recheckHeld_permitted hheld, fun d => recheckHeld_rights hheld, fun d m c => recheckHeld_guarded hheld⟩

/-! ### RELEASE and FORCE_RELEASE (R18, R21) -/

/-- Settles O8. -/
theorem releaseAnswers : Obligations.ReleaseAnswers := by
  intro p l s hr
  refine ⟨fun h => ?holder, fun h => ?other⟩ <;> refine windowCommand_answer hr ?_
  case holder =>
    rw [lockRelease, lock_modBus, if_pos h]
    exact (rebused_begin.handover l).answerLock .released
  case other => rw [lockRelease, lock_modBus, if_neg h, answerLock_begin]

theorem revoke_revokedFrom (h : PortId) : revoke l h s = handover l (s.revokedFrom l h) := by
  rw [revoke_eq]
  simp only [modLockPort_eq, setCause_eq, port_setPort_self, setPort_setPort]
  rfl

/-- Settles O11: the port is judged first, then the state of the lock. -/
theorem forceReleaseAnswers : Obligations.ForceReleaseAnswers := by
  intro p l s hr
  refine ⟨fun hp => ?privilege, fun hp => ⟨fun h hne hheld => ?revoked, fun h => ?handed, fun hfree => ?free⟩⟩
  case privilege =>
    have hp' : p ≠ (modBus p (fun _ => Bus.begin) s).configPort := hp
    refine windowCommand_answer hr ?_
    rw [lockForce, if_pos hp', answerLock_begin]
  all_goals
    have hp' : ¬ p ≠ (modBus p (fun _ => Bus.begin) s).configPort := not_not.mpr hp
    refine windowCommand_answer hr ?_
    rw [lockForce, if_neg hp', lock_modBus]
  case revoked =>
    simp only [hheld, if_neg hne]
    rw [← revoke_revokedFrom]
    exact (rebused_begin.revoke l h).answerLock .forced
  case handed =>
    have hgiven := (rebused_begin (p := p) (s := s)).handover l |>.answerLock (l := l) .forced
    rcases h with h | h
    · simpa only [h, if_true] using hgiven
    · simpa only [h] using hgiven
  case free => simp only [hfree, answerLock_begin]

/-! ### WAIT (R17) -/

theorem lockWait_granted {n : Ticks} (hw : (s.port p).lock.request.isWaiting = false) (hheld : (s.lock l).state ≠ .held p)
    (hroom : (s.heldLocks p).length < 8) (hfree : (s.lock l).state = .free) :
    lockWait p l n (modBus p (fun _ => Bus.begin) s) = setLock l ((s.lock l).granted p (s.lock l).waiters)
      (s.after p (fun r => { r with
        lock := { r.lock with request := .granted l .explicit, result := { outcome := .granted, lock := l } }
        intr := r.intr.raised .lockOutcome }) none) := by
  have hroom' : ¬ Config.holdMax ≤ (s.heldLocks p).length := Nat.not_le.mpr hroom
  rw [lockWait, lockRecords_modBus, lock_modBus, heldLocks_modBus, if_neg (by simp [hw]), if_neg hheld, if_neg hroom',
    if_pos hfree]
  simp only [grantLock_eq, writeRequest_eq, setCause_eq, answerLock, modLockPort_eq, done_eq, port_setLock,
    port_setPort_self, setPort_setPort, setPort_setLock, modBus_begin_eq]
  rfl

theorem lockWait_entered {n : Ticks} (hw : (s.port p).lock.request.isWaiting = false) (hheld : (s.lock l).state ≠ .held p)
    (hroom : (s.heldLocks p).length < 8) (hfree : (s.lock l).state ≠ .free) :
    lockWait p l n (modBus p (fun _ => Bus.begin) s) = setLock l { s.lock l with
        waiters := insertWaiter (s.lock l).policy
          { port := p, kind := .explicit, rank := fieldOf s.ranks p
            patience := if n = 0 then .stopped else .running n } (s.lock l).waiters }
      (s.after p (fun r => { r with
        lock := { r.lock with request := .waiting l .explicit, result := { outcome := .pending, lock := l } } }) none) := by
  have hroom' : ¬ Config.holdMax ≤ (s.heldLocks p).length := Nat.not_le.mpr hroom
  rw [lockWait, lockRecords_modBus, lock_modBus, heldLocks_modBus, if_neg (by simp [hw]), if_neg hheld, if_neg hroom',
    if_neg hfree]
  simp only [enterWait, modLock_eq, writeRequest_eq, answerLock, modLockPort_eq, done_eq, port_setLock,
    port_setPort_self, setPort_setPort, setPort_setLock, modBus_begin_eq]
  rfl

/-- Settles O7, by the four questions of R17 in their order. -/
theorem waitAnswers : Obligations.WaitAnswers := by
  intro p l n s hr
  refine ⟨fun m k hw => ?pending, fun hw => ⟨fun hheld => ?alreadyHeld, fun hheld hfull => ?holdLimit,
    fun hheld hroom => ⟨fun hfree => ?granted, fun hfree => ?entered⟩⟩⟩ <;> refine windowCommand_answer hr ?_
  case pending => rw [lockWait, lockRecords_modBus, hw, RequestRecord.isWaiting, if_pos rfl, answerLock_begin]
  case alreadyHeld =>
    rw [lockWait, lockRecords_modBus, lock_modBus, if_neg (by simp [hw]), if_pos hheld, answerLock_begin]
  case holdLimit =>
    have hfull' : Config.holdMax ≤ (s.heldLocks p).length := hfull
    rw [lockWait, lockRecords_modBus, lock_modBus, heldLocks_modBus, if_neg (by simp [hw]), if_neg hheld, if_pos hfull',
      answerLock_begin]
  case granted => exact lockWait_granted hw hheld hroom hfree
  case entered => exact lockWait_entered hw hheld hroom hfree

/-! ### Expiries (R42, R45, R84) -/

theorem eventCommand_running {f : State → State} (hn : s.nrst = false) : eventCommand f s = .next (settle (f s)) := by
  simp [eventCommand, whileRunning, hn]

theorem expireLease_due {h : PortId} (hheld : (s.lock l).state = .held h) (hdue : (s.lock l).lease = .due) :
    expireLease l s = handover l (s.revokedFrom l h) := by
  simp only [expireLease, hheld, hdue, revoke_revokedFrom]

theorem expireLease_none (h : (s.lock l).lease ≠ .due ∨ ∀ h, (s.lock l).state ≠ .held h) : expireLease l s = s := by
  unfold expireLease
  split
  next h' hheld hdue => exact absurd hdue (h.resolve_right fun hno => hno h' hheld)
  next => rfl

/-- Settles O14. -/
theorem leaseExpiryRevokes : Obligations.LeaseExpiryRevokes := by
  intro l s
  refine ⟨fun h hn hheld hdue => ?expires, fun h => ?nothing⟩
  case expires => exact (eventCommand_running hn).trans (by rw [expireLease_due hheld hdue])
  case nothing =>
    cases hn : s.nrst with
    | true => simp [exec, execLeaseExpiry, eventCommand, whileRunning, hn]
    | false =>
      have hnone : (s.lock l).lease ≠ .due ∨ ∀ h, (s.lock l).state ≠ .held h := by simpa [hn] using h
      exact (eventCommand_running hn).trans (by rw [expireLease_none hnone])

/-- The entry of a port in a list that holds no other of its own. -/
theorem find?_only {us vs : List Waiter} {w : Waiter} (hw : w.port = p) (hus : ∀ x ∈ us, x.port ≠ p) :
    (us ++ w :: vs).find? (fun x => decide (x.port = p)) = some w := by
  rw [List.find?_append, List.find?_eq_none.mpr (by simpa using hus)]
  simp [hw]

theorem dropWaiter_only {us vs : List Waiter} {w : Waiter} (hw : w.port = p) (h : ∀ x ∈ us ++ vs, x.port ≠ p) :
    dropWaiter p (us ++ w :: vs) = us ++ vs := by
  have hus : us.filter (fun x => decide (x.port ≠ p)) = us :=
    List.filter_eq_self.mpr fun x hx => decide_eq_true (h x (by simp [hx]))
  have hvs : vs.filter (fun x => decide (x.port ≠ p)) = vs :=
    List.filter_eq_self.mpr fun x hx => decide_eq_true (h x (by simp [hx]))
  rw [dropWaiter, List.filter_append, hus, List.filter_cons, if_neg (by simp [hw]), hvs]

/-- The state in which the entry of port `p` has expired, before a held access ends (R45). -/
def State.timedOut (s : State) (l : LockId) (p : PortId) (k : WaitKind) (ws : List Waiter) : State :=
  setPort p { s.port p with
    lock := { (s.port p).lock with request := .timedOut l k }
    intr := (s.port p).intr.raised .lockOutcome } (setLock l { s.lock l with waiters := ws } s)

theorem expirePatience_due {us vs : List Waiter} {w : Waiter} (hlist : (s.lock l).waiters = us ++ w :: vs) (hw : w.port = p)
    (h : ∀ x ∈ us ++ vs, x.port ≠ p) (hdue : w.patience = .due) :
    expirePatience l p s =
      if w.kind = .claim then endHeldExpired p (s.timedOut l p w.kind (us ++ vs)) else s.timedOut l p w.kind (us ++ vs) := by
  have hfind : (s.lock l).waiterOf p = some w := by
    rw [LockRecord.waiterOf, hlist, find?_only hw fun x hx => h x (by simp [hx])]
  have hout : setCause p .lockOutcome (writeRequest p (.timedOut l w.kind) (removeWaiter l p s)) =
      s.timedOut l p w.kind (us ++ vs) := by
    simp only [removeWaiter, modLock_eq, writeRequest_eq, setCause_eq, port_setLock, port_setPort_self, setPort_setPort,
      hlist, dropWaiter_only hw h]
    rfl
  simp only [expirePatience, hfind, if_pos hdue, hout]

theorem held_timedOut (k : WaitKind) (ws : List Waiter) : ((s.timedOut l p k ws).port p).held = (s.port p).held := by
  simp [State.timedOut]

theorem endHeldExpired_absent (h : (s.port p).held = none) : endHeldExpired p s = s := by
  simp [endHeldExpired, h]

theorem endHeldExpired_held {h : HeldAccess} (hh : (s.port p).held = some h) :
    endHeldExpired p s =
      (setHeld p none s).accessRefused p h.access h.address .holdExpired (some h.desc) (some h.lock) := by
  simp only [endHeldExpired, hh, refuseAccess_refused]

theorem expirePatience_none (h : ∀ w ∈ (s.lock l).waiters, w.port = p → w.patience ≠ .due) : expirePatience l p s = s := by
  unfold expirePatience
  split
  next => rfl
  next w hw =>
    have hport : w.port = p := by simpa using List.find?_some hw
    exact if_neg (h w (List.mem_of_find?_eq_some hw) hport)

/-- Settles O15. -/
theorem patienceExpiryOutcome : Obligations.PatienceExpiryOutcome := by
  intro l p s hn
  refine ⟨fun w us vs hlist hw h hdue => ⟨fun hk => ?entry, fun hk x hx => ?claim⟩, fun h => ?nothing⟩ <;>
    refine (eventCommand_running hn).trans ?_
  case entry =>
    rw [expirePatience_due hlist hw h hdue]
    rcases hk with hk | hk
    · rw [if_neg (by simp [hk])]; rfl
    · rw [endHeldExpired_absent (by rw [held_timedOut, hk]), ite_self]; rfl
  case claim =>
    rw [expirePatience_due hlist hw h hdue, if_pos hk, endHeldExpired_held (by rw [held_timedOut, hx])]
    rfl
  case nothing => rw [expirePatience_none h]

/-! ### Tick events (R35, R37, R38) -/

theorem exec_tickEvent (hn : s.nrst = false) : exec .tickEvent s = .next (tickAll s) := by
  simp [exec, execTickEvent, whileRunning, hn]

theorem tick_running {n : Ticks} (h : 1 < n.toNat) : (Countdown.running n).tick = .running (n - 1) :=
  if_neg (Nat.not_le.mpr h)

theorem tick_last {n : Ticks} (h : n.toNat ≤ 1) : (Countdown.running n).tick = .due := if_pos h

/-- A lease of `n` ticks after `k` tick events. -/
theorem afterTicks_lease (k : Nat) : ∀ (s : State) (n : Ticks), s.nrst = false → (s.lock l).lease = .running n →
    n ≠ 0 → k ≤ n.toNat → ∃ t, afterTicks k s = some t ∧
      (t.lock l).lease = if k = n.toNat then .due else .running (n - BitVec.ofNat 8 k) := by
  induction k with
  | zero =>
    intro s n _ hlease hn _
    have hn0 : 0 ≠ n.toNat := fun h => hn (BitVec.eq_of_toNat_eq h.symm)
    exact ⟨s, rfl, by simp [hlease, hn0]⟩
  | succ k ih =>
    intro s n hnrst hlease hn hk
    have hstep : afterTicks (k + 1) s = afterTicks k (tickAll s) := by simp only [afterTicks, exec_tickEvent hnrst]
    have htick : ((tickAll s).lock l).lease = (Countdown.running n).tick := by rw [lock_tickAll, ← hlease]; rfl
    rw [hstep]
    rcases Nat.lt_or_ge 1 n.toNat with h1 | h1
    · have hsub : (n - 1).toNat = n.toNat - 1 := by
        have := n.isLt
        rw [BitVec.toNat_sub]
        simp
        omega
      rw [tick_running h1] at htick
      obtain ⟨t, ht, hl⟩ := ih (tickAll s) (n - 1) hnrst htick (fun h0 => by rw [h0] at hsub; simp at hsub; omega)
        (by omega)
      refine ⟨t, ht, hl.trans ?_⟩
      have hiff : k = (n - 1).toNat ↔ k + 1 = n.toNat := by omega
      have hcount : n - 1 - BitVec.ofNat 8 k = n - BitVec.ofNat 8 (k + 1) := by
        rw [BitVec.ofNat_add]
        bv_omega
      simp only [hiff, hcount]
    · have hlast : k + 1 = n.toNat := by omega
      rw [tick_last h1] at htick
      obtain rfl : k = 0 := by omega
      exact ⟨tickAll s, rfl, by rw [if_pos hlast]; exact htick⟩

/-- Settles O16. -/
theorem tickEventCounts : Obligations.TickEventCounts := by
  refine ⟨fun s hn => ⟨tickAll s, exec_tickEvent hn, rfl, fun l => lock_tickAll, fun p => port_tickAll⟩, fun s hn => ?reset,
    fun n => ⟨tick_running, fun h => tick_last (by simp [h])⟩, rfl, rfl,
    fun s l n hn hlease h0 k hk => afterTicks_lease k s n hn hlease h0 hk⟩
  case reset => simp [exec, execTickEvent, whileRunning, hn]

end Sys2Proof.Machine
end

section
/-! The message unit: where a message is inserted, the outcomes of SEND, the drain of a hold list, and the ends of held
sends. -/

namespace Sys2Proof.Machine

variable {p q : PortId} {s t : State}

/-! ### Insertion (R121) -/

theorem insertUrgent_split {m : Message} {us ns : List Message} (hus : ∀ u ∈ us, u.cls = .urgent)
    (hns : ∀ n ∈ ns, n.cls = .normal) : insertUrgent m (us ++ ns) = us ++ m :: ns := by
  have hstop : ns.takeWhile (fun x => decide (x.cls = .urgent)) = [] ∧
      ns.dropWhile (fun x => decide (x.cls = .urgent)) = ns := by
    cases ns with
    | nil => exact ⟨rfl, rfl⟩
    | cons n ns => simp [hns n (by simp)]
  have hall : ∀ u ∈ us, decide (u.cls = .urgent) = true := fun u hu => decide_eq_true (hus u hu)
  rw [insertUrgent, List.takeWhile_append_of_pos hall, List.dropWhile_append_of_pos hall, hstop.1, hstop.2,
    List.append_nil]

theorem insertMessage_normal {m : Message} (h : m.cls = .normal) (opened : Bool) (ms : List Message) :
    insertMessage opened m ms = ms ++ [m] := by
  simp [insertMessage, h]

theorem insertMessage_urgent_closed {m : Message} (h : m.cls = .urgent) (ms : List Message) :
    insertMessage false m ms = insertUrgent m ms := by
  simp [insertMessage, h]

theorem insertMessage_urgent_opened {m : Message} (h : m.cls = .urgent) (x : Message) (ms : List Message) :
    insertMessage true m (x :: ms) = x :: insertUrgent m ms := by
  simp [insertMessage, h]

theorem insertMessage_empty (opened : Bool) (m : Message) : insertMessage opened m [] = [m] := by
  cases h : m.cls <;> simp [insertMessage, insertUrgent, h]

/-- Settles O30. -/
theorem messageInsertion : Obligations.MessageInsertion := by
  intro m x us ns opened
  refine ⟨fun h => insertMessage_normal h opened _, fun h hus hns => ⟨?closed, ?opened, insertMessage_empty opened m⟩⟩
  case closed => rw [insertMessage_urgent_closed h, insertUrgent_split hus hns]
  case opened => rw [insertMessage_urgent_opened h, insertUrgent_split hus hns]

/-- An inserted message adds its words, wherever it stands. -/
theorem wordsUsed_insertUrgent (m : Message) (ms : List Message) :
    wordsUsed (insertUrgent m ms) = wordsUsed ms + wordsFor m.payload.length := by
  have hsplit := congrArg wordsUsed (List.takeWhile_append_dropWhile (p := fun x : Message => decide (x.cls = .urgent)) (l := ms))
  simp only [wordsUsed, List.map_append, List.sum_append] at hsplit
  simp only [wordsUsed, insertUrgent, List.map_append, List.map_cons, List.sum_append, List.sum_cons]
  omega

theorem wordsUsed_insertMessage (opened : Bool) (m : Message) (ms : List Message) :
    wordsUsed (insertMessage opened m ms) = wordsUsed ms + wordsFor m.payload.length := by
  cases h : m.cls with
  | normal => simp [insertMessage_normal h, wordsUsed]
  | urgent =>
    cases opened with
    | false => rw [insertMessage_urgent_closed h, wordsUsed_insertUrgent]
    | true =>
      cases ms with
      | nil => rw [insertMessage_empty]; simp [wordsUsed]
      | cons x xs =>
        have hcons : ∀ ys, wordsUsed (x :: ys) = wordsFor x.payload.length + wordsUsed ys := fun ys => by simp [wordsUsed]
        rw [insertMessage_urgent_opened h, hcons, hcons, wordsUsed_insertUrgent]
        omega

/-! ### The conditions of an admission (R122, R195) -/

@[simp] theorem attach_begin (q : PortId) : ((modBus p (fun _ => Bus.begin) s).port q).attach = (s.port q).attach := by
  rw [modBus_begin_eq, port_setPort]
  split
  next h => rw [h]
  next => rfl

@[simp] theorem msg_begin (q : PortId) : ((modBus p (fun _ => Bus.begin) s).port q).msg = (s.port q).msg := by
  rw [modBus_begin_eq, port_setPort]
  split
  next h => rw [h]
  next => rfl

theorem countsAttached_iff : s.countsAttached q = true ↔ s.takesMessages q := by
  simp [State.countsAttached, State.takesMessages]

theorem fits_iff {n : Nat} {ms : List Message} :
    fits n ms = true ↔ (ms.map fun m => 1 + m.payload.length).sum + 1 + n ≤ 32 := by
  rw [fits, decide_eq_true_iff, wordsFor, ← Nat.add_assoc]
  rfl

theorem admits_iff {n : Nat} : s.admits q n = true ↔ s.hasRoom q n := by
  simp only [State.admits, State.hasRoom, Bool.and_eq_true, countsAttached_iff, fits_iff, List.isEmpty_iff, and_assoc]

@[simp] theorem countsAttached_begin : (modBus p (fun _ => Bus.begin) s).countsAttached q = s.countsAttached q := by
  simp [State.countsAttached]

@[simp] theorem admits_begin (n : Nat) : (modBus p (fun _ => Bus.begin) s).admits q n = s.admits q n := by
  simp [State.admits]

/-! ### SEND (R122 to R125) -/

theorem admitMessage_eq (m : Message) : admitMessage q m s = s.admitted q m := by
  cases h : m.cls <;>
    simp [admitMessage, modMsg_eq, setCause_eq, State.admitted, InterruptRecord.raised, arrivalCause, h]

theorem Rebused.admitMessage (h : Rebused p s t) (q : PortId) (m : Message) :
    Rebused p (admitMessage q m s) (admitMessage q m t) :=
  (h.modMsg q _).setCause q _

/-- The end of a SEND whose cycle the window took. -/
theorem Rebused.answerSend (h : Rebused p s t) (o : SendOutcome) (q : PortId) :
    answerSend p o q t = s.after p (fun r => r.sendEnded o q r.msg.staging) none := by
  obtain ⟨b, hst, hn, rfl⟩ := h
  simp [Machine.answerSend, setSendResult, modMsg_eq, done_eq, State.after, bus_complete_answered b none false hn hst,
    PortRecord.sendEnded]

theorem after_modMsg_sent (q : PortId) :
    (modMsg p (fun r => { r with staging := [] }) s).after p (fun r => r.sendEnded .sent q r.msg.staging) none =
      s.after p (·.sendEnded .sent q []) none := by
  simp [modMsg_eq, State.after, PortRecord.sendEnded]

section
variable {urgent hold : Bool} {tag : BitVec 8}

theorem sendMessage_detached (h : ¬ s.takesMessages q) :
    sendMessage p q urgent hold tag (modBus p (fun _ => Bus.begin) s) =
      s.after p (·.sendEnded .detached q (s.port p).msg.staging) none := by
  have hno : s.countsAttached q = false := Bool.eq_false_iff.mpr (mt countsAttached_iff.mp h)
  simp only [sendMessage, countsAttached_begin, hno, Bool.not_false, if_true]
  exact rebused_begin.answerSend .detached q

theorem sendMessage_sent (h : s.hasRoom q (s.port p).msg.staging.length) :
    sendMessage p q urgent hold tag (modBus p (fun _ => Bus.begin) s) =
      (s.admitted q { sender := p, cls := if urgent then .urgent else .normal, origin := .host, tag := tag,
                      payload := (s.port p).msg.staging }).after p (·.sendEnded .sent q []) none := by
  have hyes : s.countsAttached q = true := countsAttached_iff.mpr h.1
  have hroom : s.admits q (s.port p).msg.staging.length = true := admits_iff.mpr h
  simp only [sendMessage, countsAttached_begin, hyes, Bool.not_true, Bool.false_eq_true, if_false, msg_begin, admits_begin,
    hroom, if_true]
  rw [← admitMessage_eq, ← after_modMsg_sent]
  exact ((rebused_begin.admitMessage q _).modMsg p _).answerSend .sent q

section
variable (htakes : s.takesMessages q) (hroom : ¬ s.hasRoom q (s.port p).msg.staging.length)
include htakes hroom

theorem sendMessage_noRoom : sendMessage p q urgent hold tag (modBus p (fun _ => Bus.begin) s) =
    if !hold || p == q then answerSend p .full q (modBus p (fun _ => Bus.begin) s)
    else holdSend p q (classOf urgent) tag (modBus p (fun _ => Bus.begin) s) := by
  have hyes : s.countsAttached q = true := countsAttached_iff.mpr htakes
  have hfull : s.admits q (s.port p).msg.staging.length = false := Bool.eq_false_iff.mpr (mt admits_iff.mp hroom)
  simp only [sendMessage, countsAttached_begin, hyes, Bool.not_true, Bool.false_eq_true, if_false, msg_begin, admits_begin,
    hfull]

theorem sendMessage_full (h : hold = false ∨ p = q) :
    sendMessage p q urgent hold tag (modBus p (fun _ => Bus.begin) s) =
      s.after p (·.sendEnded .full q (s.port p).msg.staging) none := by
  rw [sendMessage_noRoom htakes hroom, if_pos (by simpa using h)]
  exact rebused_begin.answerSend .full q

theorem sendMessage_held (hhold : hold = true) (hne : p ≠ q) :
    sendMessage p q urgent hold tag (modBus p (fun _ => Bus.begin) s) =
      setPort p { s.port p with
          bus := { strobe := true, phase := .send q, next := none, data := none, nerrLow := false } }
        (setPort q { s.port q with msg := { (s.port q).msg with
          holdList := (s.port q).msg.holdList ++ [{ sender := p, cls := if urgent then .urgent else .normal, tag := tag
                                                    length := (s.port p).msg.staging.length
                                                    hold := if s.holdLimit = 0 then .stopped
                                                            else .running s.holdLimit }] } } s) := by
  rw [sendMessage_noRoom htakes hroom, if_neg (by simp [hhold, hne])]
  simp only [holdSend, modMsg_eq, modBus_eq, port_setPort_self, port_setPort_ne _ _ _ _ (Ne.symm hne),
    setPort_comm q p _ _ _ (Ne.symm hne), setPort_setPort]
  rfl

end

end

/-- Settles O29: the four answers of R123 and R124 in their order. -/
theorem sendOutcomes : Obligations.SendOutcomes := fun _ _ _ _ _ _ hr =>
  ⟨fun h => windowCommand_answer hr (sendMessage_detached h), fun h => windowCommand_answer hr (sendMessage_sent h),
    fun htakes hroom h => windowCommand_answer hr (sendMessage_full htakes hroom h),
    fun htakes hroom hhold hne => windowCommand_answer hr (sendMessage_held htakes hroom hhold hne)⟩

/-! ### The end of a held send (R136, R138, R140) -/

/-- The record of a port whose held send on the list of `q` has ended: its cycle completes unless a detach has ended it. -/
def PortRecord.heldEnded (r : PortRecord) (o : SendOutcome) (q : PortId) (st : List Word) : PortRecord :=
  { r.sendEnded o q st with bus := if r.bus.phase = .send q then r.bus.complete none false else r.bus }

theorem heldEnded_open {r : PortRecord} (h : r.bus.phase = .send q) (o : SendOutcome) (st : List Word) :
    r.heldEnded o q st = { r.sendEnded o q st with bus := r.bus.complete none false } := by
  simp [PortRecord.heldEnded, h]

theorem heldEnded_ended {r : PortRecord} (h : r.bus.phase ≠ .send q) (o : SendOutcome) (st : List Word) :
    r.heldEnded o q st = r.sendEnded o q st := by
  simp [PortRecord.heldEnded, h, PortRecord.sendEnded]

theorem finishSend_eq : finishSend p q s =
    setPort p { s.port p with
      bus := if (s.port p).bus.phase = .send q then (s.port p).bus.complete none false else (s.port p).bus } s := by
  unfold finishSend
  split
  · exact done_eq p s none
  · exact (setPort_port p s).symm

theorem finishSend_setSendResult (o : SendOutcome) :
    finishSend p q (setSendResult p o q s) = setPort p ((s.port p).heldEnded o q (s.port p).msg.staging) s := by
  simp [finishSend_eq, setSendResult, modMsg_eq, PortRecord.heldEnded, PortRecord.sendEnded]

/-- The message that a hold-list entry stands for. -/
def State.heldMessage (s : State) (e : HoldEntry) : Message :=
  { sender := e.sender, cls := e.cls, origin := .host, tag := e.tag, payload := (s.port e.sender).msg.staging }

theorem admitHeld_eq {e : HoldEntry} (h : e.sender ≠ q) :
    admitHeld q e s = setPort e.sender ((s.port e.sender).heldEnded .sent q []) (s.admitted q (s.heldMessage e)) := by
  simp only [admitHeld, admitMessage_eq, finishSend_setSendResult, modMsg_eq, port_setPort_self, setPort_setPort]
  simp [State.admitted, h, PortRecord.heldEnded, PortRecord.sendEnded, State.heldMessage]

/-! ### The drain (R136) -/

theorem drain_of_list {es : List HoldEntry} (h : (s.port q).msg.holdList = es) : drain q s = drainEntries q es s := by
  rw [drain, h]

/-- A drain admits a head of another port that fits and goes on behind it. -/
theorem drain_admitted {e : HoldEntry} {es : List HoldEntry} (h : (s.port q).msg.holdList = e :: es)
    (hf : fits e.length (s.port q).msg.queue = true) (hne : e.sender ≠ q) :
    drain q s = drain q (setPort e.sender ((s.port e.sender).heldEnded .sent q [])
      (State.admitted (setPort q { s.port q with msg := { (s.port q).msg with holdList := es } } s) q (s.heldMessage e))) := by
  rw [drain_admits q s e es h hf, modMsg_eq, admitHeld_eq hne, port_setPort_ne _ _ _ _ hne]
  have hmsg : State.heldMessage (setPort q { s.port q with msg := { (s.port q).msg with holdList := es } } s) e =
      s.heldMessage e := by simp [State.heldMessage, hne]
  rw [hmsg]
  exact (drain_of_list (by simp [State.admitted, Ne.symm hne])).symm

/-- While the entries' messages fit one after another, a drain empties the list. -/
theorem holdList_drainEntries (es : List HoldEntry) : ∀ s : State,
    (∀ e ∈ es, e.sender ≠ q ∧ e.length = (s.port e.sender).msg.staging.length) → (es.map HoldEntry.sender).Nodup →
    wordsUsed (s.port q).msg.queue + (es.map fun e => wordsFor e.length).sum ≤ 32 →
    ((drainEntries q es s).port q).msg.holdList = [] := by
  induction es with
  | nil => intro s _ _ _; simp [drainEntries, modMsg_eq]
  | cons e es ih =>
    intro s hall hnodup hwords
    obtain ⟨hne, hlen⟩ := hall e (by simp)
    obtain ⟨hfresh, hnodup'⟩ := List.nodup_cons.mp hnodup
    simp only [List.map_cons, List.sum_cons] at hwords
    have hfits : fits e.length (s.port q).msg.queue = true := by
      rw [fits, decide_eq_true_iff, Config.queueWords]
      omega
    rw [drainEntries, if_pos hfits, modMsg_eq, admitHeld_eq hne]
    refine ih _ (fun e' he' => ?_) hnodup' ?_
    · obtain ⟨hne', hlen'⟩ := hall e' (List.mem_cons_of_mem _ he')
      have hother : e'.sender ≠ e.sender := fun h => hfresh (h ▸ List.mem_map_of_mem he')
      exact ⟨hne', by simp [State.admitted, hne', hother, hlen']⟩
    · have hqueue : (State.port (setPort e.sender
          ((State.port (setPort q { s.port q with msg := { (s.port q).msg with holdList := es } } s) e.sender).heldEnded .sent q [])
          (State.admitted (setPort q { s.port q with msg := { (s.port q).msg with holdList := es } } s) q
            (State.heldMessage (setPort q { s.port q with msg := { (s.port q).msg with holdList := es } } s) e))) q).msg.queue =
          insertMessage (s.port q).msg.opened (s.heldMessage e) (s.port q).msg.queue := by
        simp [State.admitted, Ne.symm hne, State.heldMessage, hne]
      rw [hqueue, wordsUsed_insertMessage, State.heldMessage, ← hlen]
      omega

/-- At most three other ports have a send held on a list. -/
theorem length_senders_le {es : List HoldEntry} (hne : ∀ e ∈ es, e.sender ≠ q) (hnodup : (es.map HoldEntry.sender).Nodup) :
    es.length ≤ 3 := by
  have hcons : (q :: es.map HoldEntry.sender).Nodup :=
    List.nodup_cons.mpr ⟨fun h => by
      obtain ⟨e, he, heq⟩ := List.mem_map.mp h
      exact hne e he heq, hnodup⟩
  have hcard := hcons.length_le_card
  simp only [List.length_cons, List.length_map, Fintype.card_fin] at hcard
  omega

theorem sum_wordsFor_le {es : List HoldEntry} (h : ∀ e ∈ es, e.length ≤ 6) :
    (es.map fun e => wordsFor e.length).sum ≤ 7 * es.length := by
  induction es with
  | nil => simp
  | cons e es ih =>
    have he := h e (by simp)
    have hes := ih fun x hx => h x (List.mem_cons_of_mem _ hx)
    simp only [List.map_cons, List.sum_cons, List.length_cons, wordsFor] at hes ⊢
    omega

/-- Over an empty queue every held send fits, as there are at most three of at most six words (R134). -/
theorem holdList_drain_empty (hok : MessagesOk s) (hempty : (s.port q).msg.queue = []) :
    ((drain q s).port q).msg.holdList = [] := by
  have hlen : ∀ e ∈ (s.port q).msg.holdList, e.length ≤ 6 := fun e he => by
    rw [hok.entryLength q e he]; exact hok.staged e.sender
  have hthree := length_senders_le (hok.entrySender q) (hok.entryOnce q)
  have hsum := sum_wordsFor_le hlen
  refine holdList_drainEntries _ s (fun e he => ⟨hok.entrySender q e he, hok.entryLength q e he⟩) (hok.entryOnce q) ?_
  rw [hempty]
  simp only [wordsUsed, List.map_nil, List.sum_nil]
  omega

/-- Settles O33. -/
theorem drainOfHoldList : Obligations.DrainOfHoldList := by
  refine ⟨fun q s => ⟨drain_empty q s, fun e es hlist => ⟨fun hfull => ?stops, fun hroom hne => ⟨fun hopen => ?completes,
    fun hopen => ?ended⟩⟩⟩, fun p s hok hempty => holdList_drain_empty hok hempty⟩
  case stops =>
    refine drain_stops q s e es hlist (Bool.eq_false_iff.mpr fun hf => ?_)
    rw [fits_iff] at hf
    omega
  case completes =>
    rw [drain_admitted hlist (fits_iff.mpr hroom) hne, heldEnded_open hopen]
    simp [State.completing, State.admitted, hne, State.heldMessage]
  case ended =>
    rw [drain_admitted hlist (fits_iff.mpr hroom) hne, heldEnded_ended hopen]
    rfl

/-! ### POP and FLUSH (R133, R134) -/

theorem Rebused.finishSend (h : Rebused p s t) (r q : PortId) (hr : r ≠ p) :
    Rebused p (finishSend r q s) (finishSend r q t) := by
  have hport : t.port r = s.port r := by
    obtain ⟨b, -, -, rfl⟩ := h
    exact port_setPort_ne p r s _ hr
  unfold Machine.finishSend
  rw [hport]
  split
  · exact h.completeCycle r none false
  · exact h

theorem Rebused.msg (h : Rebused p s t) (q : PortId) : (t.port q).msg = (s.port q).msg := by
  obtain ⟨b, hb⟩ := h.port q
  rw [hb]

theorem Rebused.admitHeld (h : Rebused p s t) (q : PortId) {e : HoldEntry} (he : e.sender ≠ p) :
    Rebused p (admitHeld q e s) (admitHeld q e t) := by
  unfold Machine.admitHeld
  rw [h.msg]
  exact (((h.admitMessage q _).modMsg e.sender _).modMsg e.sender _).finishSend e.sender q he

/-- A drain meets the bus of `p` only through an entry of `p`. -/
theorem Rebused.drainEntries (q : PortId) (es : List HoldEntry) : ∀ {s t : State}, Rebused p s t →
    (∀ e ∈ es, e.sender ≠ p) → Rebused p (drainEntries q es s) (drainEntries q es t) := by
  induction es with
  | nil => exact fun h _ => h.modMsg q _
  | cons e es ih =>
    intro s t h hes
    unfold Machine.drainEntries
    rw [h.msg q]
    split
    · exact ih ((h.modMsg q _).admitHeld q (hes e (by simp))) fun x hx => hes x (List.mem_cons_of_mem _ hx)
    · exact h.modMsg q _

theorem Rebused.drain (h : Rebused p s t) (q : PortId) (hes : ∀ e ∈ (s.port q).msg.holdList, e.sender ≠ p) :
    Rebused p (drain q s) (drain q t) := by
  unfold Machine.drain
  rw [h.msg q]
  exact Rebused.drainEntries q _ h hes

/-- The drain behind a removal at the front of the port's own queue, and the end of the command. -/
theorem done_drain_left (ms : List Message) (hes : ∀ e ∈ (s.port p).msg.holdList, e.sender ≠ p) :
    done p none (drain p (modMsg p (fun r => { r with queue := ms, opened := false, readIndex := 0 })
      (modBus p (fun _ => Bus.begin) s))) =
    State.after (drain p (setPort p { s.port p with
      msg := { (s.port p).msg with queue := ms, opened := false, readIndex := 0 } } s)) p id none :=
  ((rebused_begin.modMsg p fun r => { r with queue := ms, opened := false, readIndex := 0 }).drain p
    (by simpa [modMsg_eq] using hes)).done none

/-- Settles O32. -/
theorem popAndFlush : Obligations.PopAndFlush := by
  intro p s hr
  refine ⟨fun hempty => ?popEmpty, fun m ms hfront hes => ?pop, fun hes => ?flush⟩ <;> refine windowCommand_answer hr ?_
  case popEmpty => simp only [popMessage, msg_begin, hempty, done_begin]
  case pop =>
    simp only [popMessage, msg_begin, hfront]
    exact done_drain_left ms hes
  case flush => exact done_drain_left [] hes

/-! ### Entries that leave a list (R138, R141) -/

theorem dropEntry_only {us vs : List HoldEntry} {e : HoldEntry} (he : e.sender = p) (h : ∀ x ∈ us ++ vs, x.sender ≠ p) :
    dropEntry p (us ++ e :: vs) = us ++ vs := by
  have hkeep : ∀ xs : List HoldEntry, (∀ x ∈ xs, x.sender ≠ p) → xs.filter (fun x => decide (x.sender ≠ p)) = xs :=
    fun xs hxs => List.filter_eq_self.mpr fun x hx => decide_eq_true (hxs x hx)
  rw [dropEntry, List.filter_append, hkeep us fun x hx => h x (by simp [hx]), List.filter_cons, if_neg (by simp [he]),
    hkeep vs fun x hx => h x (by simp [hx])]

/-- The only entry of a sender leaves the list, which is drained when it was the head. -/
theorem removeEntry_only {us vs : List HoldEntry} {e : HoldEntry} (hlist : (s.port q).msg.holdList = us ++ e :: vs)
    (he : e.sender = p) (h : ∀ x ∈ us ++ vs, x.sender ≠ p) :
    removeEntry q p s =
      if us = [] then drain q (setPort q { s.port q with msg := { (s.port q).msg with holdList := us ++ vs } } s)
      else setPort q { s.port q with msg := { (s.port q).msg with holdList := us ++ vs } } s := by
  have hdrop := dropEntry_only he h
  unfold removeEntry
  simp only [hlist, hdrop, modMsg_eq]
  cases us with
  | nil => simp [he]
  | cons x us =>
    have hx : x.sender ≠ p := h x (by simp)
    simp [hx]

/-- Without an entry of the sender the list stays. -/
theorem removeEntry_none (h : ∀ e ∈ (s.port q).msg.holdList, e.sender ≠ p) : removeEntry q p s = s := by
  have hdrop : dropEntry p (s.port q).msg.holdList = (s.port q).msg.holdList :=
    List.filter_eq_self.mpr fun e he => decide_eq_true (h e he)
  have hsame : modMsg q (fun r => { r with holdList := (s.port q).msg.holdList }) s = s := setPort_port q s
  simp only [removeEntry, hdrop, hsame]
  split
  next => rfl
  next e es hlist => exact if_neg (h e (by rw [hlist]; simp))

/-! ### Hold expiry (R138) -/

theorem find?_sender {us vs : List HoldEntry} {e : HoldEntry} (he : e.sender = p) (hus : ∀ x ∈ us, x.sender ≠ p) :
    (us ++ e :: vs).find? (fun x => decide (x.sender = p)) = some e := by
  rw [List.find?_append, List.find?_eq_none.mpr (by simpa using hus)]
  simp [he]

theorem expireHold_due {us vs : List HoldEntry} {e : HoldEntry} (hne : p ≠ q)
    (hlist : (s.port q).msg.holdList = us ++ e :: vs) (he : e.sender = p) (h : ∀ x ∈ us ++ vs, x.sender ≠ p)
    (hdue : e.hold = .due) (hended : setPort p ((s.port p).heldEnded .full q (s.port p).msg.staging) s = t) :
    expireHold q p s =
      if us = [] then drain q (setPort q { t.port q with msg := { (t.port q).msg with holdList := us ++ vs } } t)
      else setPort q { t.port q with msg := { (t.port q).msg with holdList := us ++ vs } } t := by
  have hfind : (us ++ e :: vs).find? (fun x => decide (x.sender = p)) = some e :=
    find?_sender he fun x hx => h x (by simp [hx])
  have hlist' : (t.port q).msg.holdList = us ++ e :: vs := by rw [← hended, port_setPort_ne _ _ _ _ (Ne.symm hne), hlist]
  simp only [expireHold, hlist, hfind, if_pos hdue]
  rw [finishSend_setSendResult, hended, removeEntry_only hlist' he h]

theorem expireHold_none (h : ∀ e ∈ (s.port q).msg.holdList, e.sender = p → e.hold ≠ .due) : expireHold q p s = s := by
  unfold expireHold
  split
  next => rfl
  next e he =>
    have hsender : e.sender = p := by simpa using List.find?_some he
    exact if_neg (h e (List.mem_of_find?_eq_some he) hsender)

/-- Settles O34. -/
theorem holdExpiryOutcome : Obligations.HoldExpiryOutcome := by
  intro q p s hn hne
  refine ⟨fun e us vs hlist he h hdue => ⟨fun hopen => ?completes, fun hopen => ?ended⟩, fun h => ?nothing⟩ <;>
    refine (eventCommand_running hn).trans ?_
  case completes => rw [expireHold_due hne hlist he h hdue (by rw [heldEnded_open hopen])]; rfl
  case ended => rw [expireHold_due hne hlist he h hdue (by rw [heldEnded_ended hopen])]
  case nothing => rw [expireHold_none h]

end Sys2Proof.Machine
end

section
/-! The copy engine: START and CANCEL, the two halves of a word, the ending of a job with its notice, and why the chosen
direction is safe for every overlap. -/

namespace Sys2Proof.Machine

variable {p q : PortId} {s t : State}

/-! ### START (R145, R146, R148) -/

theorem answerStart_begin (x : Submission) :
    answerStart p x (modBus p (fun _ => Bus.begin) s) =
      s.after p (fun r => { r with copy := { r.copy with submission := x } }) none :=
  done_modCopy_begin _ none

/-- The copy record after an accepted START (R145, R161). -/
def CopyPortRecord.accepted (c : CopyPortRecord) (st : JobState) : CopyPortRecord :=
  { c with submission := .accepted, jobState := st, fault := .none
           noticeOutcome := if c.noticeFlag then .pending else .none, moved := 0 }

/-- An accepted START: the job at the end of the queue, and the port's record and cycle. -/
theorem acceptJob_eq : acceptJob p s =
    { done p none (modCopy p (fun c => c.accepted (newJob p (s.port p).copy s.jobs.isEmpty).state) s) with
      jobs := s.jobs ++ [newJob p (s.port p).copy s.jobs.isEmpty]
      copyWord := if s.jobs.isEmpty then some { index := 0, phase := .source } else s.copyWord } := rfl

theorem acceptJob_begin : acceptJob p (modBus p (fun _ => Bus.begin) s) =
    { s.after p (fun r => { r with copy := r.copy.accepted (newJob p (s.port p).copy s.jobs.isEmpty).state }) none with
      jobs := s.jobs ++ [newJob p (s.port p).copy s.jobs.isEmpty]
      copyWord := if s.jobs.isEmpty then some { index := 0, phase := .source } else s.copyWord } := by
  have hjobs : (modBus p (fun _ => Bus.begin) s).jobs = s.jobs := rfl
  have hword : (modBus p (fun _ => Bus.begin) s).copyWord = s.copyWord := rfl
  rw [acceptJob_eq, port_begin_self, hjobs, hword, done_modCopy_begin]

theorem startJob_begin (h : ∀ j ∈ s.jobs, j.requester ≠ p) : startJob p (modBus p (fun _ => Bus.begin) s) =
    if (s.port p).copy.count = 0 then answerStart p .badCount (modBus p (fun _ => Bus.begin) s)
    else if Config.storeWords < (s.port p).copy.src.toNat + (s.port p).copy.count.toNat ∨
        Config.storeWords < (s.port p).copy.dst.toNat + (s.port p).copy.count.toNat then
      answerStart p .badRange (modBus p (fun _ => Bus.begin) s)
    else acceptJob p (modBus p (fun _ => Bus.begin) s) := by
  have hnone : (modBus p (fun _ => Bus.begin) s).jobOf p = none := jobOf_eq_none_iff.mpr h
  simp only [startJob, hnone, Option.isSome_none, Bool.false_eq_true, if_false, port_begin_self]

theorem startJob_busy {j : Job} (hj : j ∈ s.jobs) (hp : j.requester = p) :
    startJob p (modBus p (fun _ => Bus.begin) s) = answerStart p .busy (modBus p (fun _ => Bus.begin) s) := by
  refine if_pos ?_
  rw [Option.isSome_iff_ne_none]
  exact fun hnone => jobOf_eq_none_iff.mp hnone j hj hp

theorem newJob_eq (c : CopyPortRecord) (js : List Job) : newJob p c js.isEmpty =
    { requester := p, source := c.src, destination := c.dst, count := c.count.toNat
      direction := if c.src.toNat < c.dst.toNat ∧ c.dst.toNat < c.src.toNat + c.count.toNat then .descending
                   else .ascending
      notice := if c.noticeFlag then some c.notice else none
      state := if js = [] then .running else .queued, moved := 0, cancelMarked := false } := by
  cases js <;> rfl

/-- Settles O36: the four answers of R145 in their order. -/
theorem startAnswers : Obligations.StartAnswers := by
  intro p s hr
  refine ⟨fun j hj hp => ?busy, fun h => ⟨fun hc => ?badCount, fun hc hrange => ?badRange, fun hc hrange => ?accepted⟩⟩ <;>
    refine windowCommand_answer hr ?_
  case busy => rw [startJob_busy hj hp, answerStart_begin]
  case badCount => rw [startJob_begin h, if_pos hc, answerStart_begin]
  case badRange =>
    rw [startJob_begin h, if_neg hc, if_pos (by simp only [Config.storeWords]; omega), answerStart_begin]
  case accepted =>
    rw [startJob_begin h, if_neg hc, if_neg (by simp only [Config.storeWords]; omega), acceptJob_begin, newJob_eq]
    simp only [List.isEmpty_iff]
    rfl

/-! ### The ending of a job (R153, R158, R159) -/

theorem Rebused.removeJob (h : Rebused p s t) (q : PortId) : Rebused p (removeJob q s) (removeJob q t) := by
  obtain ⟨b, hst, hn, rfl⟩ := h
  refine ⟨b, hst, hn, ?_⟩
  unfold Machine.removeJob
  rw [jobs_setPort]
  split
  · rfl
  · split <;> rfl

theorem Rebused.admits (h : Rebused p s t) (q : PortId) (n : Nat) : t.admits q n = s.admits q n := by
  obtain ⟨b, hb⟩ := h.port q
  simp [State.admits, State.countsAttached, hb]

theorem Rebused.postNotice (h : Rebused p s t) (j : Job) (final : JobState) (fk : JobFault) :
    Rebused p (postNotice j final fk s) (postNotice j final fk t) := by
  unfold Machine.postNotice
  split
  · exact h
  · rw [h.admits]
    split
    · exact (h.admitMessage _ _).modCopy _ _
    · exact h.modCopy _ _

theorem Rebused.endJob (h : Rebused p s t) (j : Job) (final : JobState) (fk : JobFault) :
    Rebused p (endJob j final fk s) (endJob j final fk t) :=
  (((h.removeJob _).modCopy _ _).setCause _ _).postNotice j final fk

theorem port_removeJob : (removeJob p s).port q = s.port q := by
  unfold removeJob
  split
  · rfl
  · split <;> rfl

/-- In a well-formed queue the removal of a port's job is the removal from the list, with the next job running. -/
theorem removeJob_withoutJobOf (h : JobsOk s) (hj : ∃ k ∈ s.jobs, k.requester = p) : removeJob p s = s.withoutJobOf p := by
  cases hjobs : s.jobs with
  | nil => simp [hjobs] at hj
  | cons j js =>
    by_cases hp : j.requester = p
    · have hnodup := h.onePerPort
      rw [hjobs, List.map_cons, List.nodup_cons] at hnodup
      have hothers : js.filter (fun k => decide (k.requester ≠ p)) = js := List.filter_eq_self.mpr fun k hk =>
        decide_eq_true fun hkp => hnodup.1 (hp.trans hkp.symm ▸ List.mem_map_of_mem hk)
      have hfilter : (j :: js).filter (fun k => decide (k.requester ≠ p)) = js := by
        rw [List.filter_cons, if_neg (by simp [hp]), hothers]
      simp only [removeJob, State.withoutJobOf, hjobs, hfilter, hp, List.head?_cons, Option.map_some, if_true]
      cases js <;> rfl
    · have hfilter : (j :: js).filter (fun k => decide (k.requester ≠ p)) =
          j :: js.filter fun k => decide (k.requester ≠ p) := by rw [List.filter_cons, if_pos (by simp [hp])]
      simp only [removeJob, State.withoutJobOf, hjobs, hfilter, if_neg hp, List.head?_cons, Option.map_some,
        Option.some.injEq]

/-- Changes of port records that do not disturb each other can be made in either order. -/
theorem modPort_comm {a b : PortId} {f g : PortRecord → PortRecord} (h : a = b → ∀ r, f (g r) = g (f r)) :
    modPort a f (modPort b g s) = modPort b g (modPort a f s) := by
  by_cases hab : a = b
  · subst hab
    simp [modPort, h rfl]
  · simp [modPort, hab, Ne.symm hab, setPort_comm a b s _ _ hab]

/-- The state in which a job has ended, before its notice. -/
def State.jobEnded (s : State) (j : Job) (final : JobState) (fk : JobFault) (n : NoticeOutcome) : State :=
  let r := s.port j.requester
  setPort j.requester { r with
    copy := { r.copy with jobState := final, fault := fk, moved := j.moved, noticeOutcome := n }
    intr := r.intr.raised .copyEnd } (s.withoutJobOf j.requester)

section
variable {j : Job} {final : JobState} {fk : JobFault} (h : JobsOk s) (hj : ∃ k ∈ s.jobs, k.requester = j.requester)
include h hj

theorem endJob_eq : endJob j final fk s =
    postNotice j final fk (s.jobEnded j final fk (s.port j.requester).copy.noticeOutcome) := by
  have hport : (s.withoutJobOf j.requester).port j.requester = s.port j.requester := by
    rw [← removeJob_withoutJobOf h hj, port_removeJob]
  simp only [endJob, removeJob_withoutJobOf h hj, modCopy_eq, setCause_eq, port_setPort_self, setPort_setPort, hport]
  rfl

/-- Whether a notice finds room depends on no record that the ending changes. -/
theorem hasRoom_jobEnded {n : NoticeOutcome} (len : Nat) : (s.jobEnded j final fk n).hasRoom q len ↔ s.hasRoom q len := by
  have hothers : ∀ r, (s.withoutJobOf j.requester).port r = s.port r := fun r => by
    rw [← removeJob_withoutJobOf h hj, port_removeJob]
  have hattach : ((s.jobEnded j final fk n).port q).attach = (s.port q).attach := by
    by_cases hq : q = j.requester
    · subst hq; simp [State.jobEnded]
    · simp [State.jobEnded, hq, hothers]
  have hmsg : ((s.jobEnded j final fk n).port q).msg = (s.port q).msg := by
    by_cases hq : q = j.requester
    · subst hq; simp [State.jobEnded]
    · simp [State.jobEnded, hq, hothers]
  simp only [State.hasRoom, State.takesMessages, hattach, hmsg]

end

/-- A notice outcome replaced. -/
theorem jobEnded_noticeOutcome {j : Job} {final : JobState} {fk : JobFault} (n n' : NoticeOutcome) :
    modCopy j.requester (fun c => { c with noticeOutcome := n' }) (s.jobEnded j final fk n) = s.jobEnded j final fk n' := by
  simp [modCopy_eq, State.jobEnded]

theorem modCopy_modIntr (f : CopyPortRecord → CopyPortRecord) (g : InterruptRecord → InterruptRecord) :
    modCopy p f (modIntr q g s) = modIntr q g (modCopy p f s) := modPort_comm (by intros; rfl)

theorem modCopy_modMsg (f : CopyPortRecord → CopyPortRecord) (g : MessagePortRecord → MessagePortRecord) :
    modCopy p f (modMsg q g s) = modMsg q g (modCopy p f s) := modPort_comm (by intros; rfl)

/-- The outcome of a notice and its admission are different records. -/
theorem modCopy_admitMessage (f : CopyPortRecord → CopyPortRecord) (m : Message) :
    modCopy p f (admitMessage q m s) = admitMessage q m (modCopy p f s) := by
  simp only [admitMessage, setCause, modCopy_modIntr, modCopy_modMsg]

/-- Settles O40. -/
theorem jobEnding : Obligations.JobEnding := by
  intro s j final fk h hj
  refine ⟨fun hnone => ?none, fun n hn => ⟨fun hroom => ?posted, fun hroom => ?dropped⟩⟩ <;> rw [endJob_eq h hj]
  case none =>
    simp only [postNotice, hnone]
    rfl
  case posted =>
    rw [← hasRoom_jobEnded (final := final) (fk := fk) (n := (s.port j.requester).copy.noticeOutcome) h hj 2,
      ← admits_iff] at hroom
    simp only [postNotice, hn, if_pos hroom]
    rw [modCopy_admitMessage, jobEnded_noticeOutcome, admitMessage_eq]
    rfl
  case dropped =>
    rw [← hasRoom_jobEnded (final := final) (fk := fk) (n := (s.port j.requester).copy.noticeOutcome) h hj 2,
      ← admits_iff] at hroom
    simp only [postNotice, hn, if_neg hroom]
    rw [jobEnded_noticeOutcome]
    rfl

/-! ### CANCEL (R154 to R156) -/

theorem cancelJob_absent (h : ∀ j ∈ s.jobs, j.requester ≠ p) : cancelJob p s = done p none s := by
  unfold cancelJob
  split
  next => rfl
  next j js hjobs =>
    have hfind : js.find? (fun k => decide (k.requester = p)) = none :=
      List.find?_eq_none.mpr fun k hk => by simpa using h k (by simp [hjobs, hk])
    rw [if_neg (h j (by simp [hjobs])), hfind]

section
variable {j : Job} {js : List Job} {i : Nat} (hjobs : s.jobs = j :: js)
include hjobs

theorem cancelJob_marks {w : Word} (hp : j.requester = p)
    (hword : s.copyWord = some { index := i, phase := .destination w }) :
    cancelJob p s = { done p none s with jobs := { j with cancelMarked := true } :: js } := by
  simp only [cancelJob, hjobs, if_pos hp, hword]
  rw [← hword]
  rfl

theorem cancelJob_runs (hp : j.requester = p) (hword : s.copyWord = some { index := i, phase := .source }) :
    cancelJob p s = done p none (endJob j .cancelled .none s) := by
  simp only [cancelJob, hjobs, if_pos hp, hword]

end

theorem cancelJob_queued {j k : Job} {us vs : List Job} (hjobs : s.jobs = j :: (us ++ k :: vs)) (hk : k.requester = p)
    (hj : j.requester ≠ p) (hus : ∀ x ∈ us, x.requester ≠ p) :
    cancelJob p s = done p none (endJob k .cancelled .none s) := by
  have hfind : (us ++ k :: vs).find? (fun x => decide (x.requester = p)) = some k := by
    rw [List.find?_append, List.find?_eq_none.mpr (by simpa using hus)]
    simp [hk]
  simp only [cancelJob, hjobs, if_neg hj, hfind]

/-- Settles O37: the event runs on the state with the cycle begun, whose bus the end of the cycle settles. -/
theorem copyCancelOutcome : Obligations.CopyCancelOutcome := by
  intro p s hr
  refine ⟨fun h => ?absent, fun j js hjobs hp => ⟨fun i w hword => ?marked, fun i hword => ?running⟩,
    fun j us k vs hjobs hk hj hus => ?queued⟩ <;> refine windowCommand_answer hr ?_
  case absent => exact (cancelJob_absent (s := modBus p (fun _ => Bus.begin) s) h).trans (done_begin none)
  case marked =>
    rw [cancelJob_marks (s := modBus p (fun _ => Bus.begin) s) hjobs hp hword, done_begin]
  case running =>
    rw [cancelJob_runs (s := modBus p (fun _ => Bus.begin) s) hjobs hp hword]
    exact (rebused_begin.endJob j .cancelled .none).done none
  case queued =>
    rw [cancelJob_queued (s := modBus p (fun _ => Bus.begin) s) hjobs hk hj hus]
    exact (rebused_begin.endJob k .cancelled .none).done none

/-! ### The two halves of a word (R150 to R152) -/

theorem faultJob_refused (j : Job) (x : AccessType) (addr : Word) (k : FaultKind) (fk : JobFault) (d : Option DescId)
    (m : Option LockId) :
    faultJob j x addr k fk d m s = endJob j .faulted fk (s.copyRefused j.requester x addr k d m) := by
  rw [faultJob, offerFault_eq]
  rfl

/-- A grant at the copy engine is a source read of the running job in phase SOURCE. -/
theorem exec_sourceRead_half {j : Job} {js : List Job} {i : Nat} (hn : s.nrst = false)
    (hg : s.nextGrant = some .copyEngine) (hjobs : s.jobs = j :: js)
    (hword : s.copyWord = some { index := i, phase := .source }) : exec .sourceRead s = sourceHalf j i s := by
  simp [exec, execSourceRead, hn, hg, hjobs, hword]

theorem exec_destinationWrite_half {j : Job} {js : List Job} {i : Nat} {w : Word} (hn : s.nrst = false)
    (hg : s.nextGrant = some .copyEngine) (hjobs : s.jobs = j :: js)
    (hword : s.copyWord = some { index := i, phase := .destination w }) :
    exec .destinationWrite s = destinationHalf j js i w s := by
  simp [exec, execDestinationWrite, hn, hg, hjobs, hword]

theorem exec_sourceRead_none (h : s.nrst = true ∨ s.nextGrant ≠ some .copyEngine ∨ s.jobs = [] ∨
    ∀ i, s.copyWord ≠ some { index := i, phase := .source }) : exec .sourceRead s = .next s := by
  simp only [exec, execSourceRead]
  split
  next => rfl
  next hno =>
    split
    next j js i hjobs hword =>
      rw [not_or, not_not] at hno
      rcases h with h | h | h | h
      · exact absurd h hno.1
      · exact absurd hno.2 h
      · simp [hjobs] at h
      · exact absurd hword (h i)
    next => rfl

theorem exec_destinationWrite_none (h : s.nrst = true ∨ s.nextGrant ≠ some .copyEngine ∨ s.jobs = [] ∨
    ∀ i w, s.copyWord ≠ some { index := i, phase := .destination w }) : exec .destinationWrite s = .next s := by
  simp only [exec, execDestinationWrite]
  split
  next => rfl
  next hno =>
    split
    next j js i w hjobs hword =>
      rw [not_or, not_not] at hno
      rcases h with h | h | h | h
      · exact absurd h hno.1
      · exact absurd hno.2 h
      · simp [hjobs] at h
      · exact absurd hword (h i w)
    next => rfl

/-- Settles O38. -/
theorem sourceReadOutcome : Obligations.SourceReadOutcome := by
  refine ⟨fun s j js i hn hg hjobs hword hi => ?_, fun s h => exec_sourceRead_none h⟩
  intro addr t record
  have haddr : addr = j.sourceAt i := by
    simp only [addr, Job.sourceAt, Job.offset]
    cases j.direction <;> rfl
  rw [exec_sourceRead_half hn hg hjobs hword]
  refine ⟨fun hc => ?permitted, fun d hc => ?rights, fun d l c hc => ?guard⟩ <;> rw [haddr] at hc
  case permitted => simp only [sourceHalf, hc]; rw [haddr]; rfl
  case rights => simp only [sourceHalf, hc, faultJob_refused, record, haddr, t]
  case guard => simp only [sourceHalf, hc, faultJob_refused, record, haddr, t]

/-- Settles O39. -/
theorem destinationWriteOutcome : Obligations.DestinationWriteOutcome := by
  refine ⟨fun s j js i w hn hg hjobs hword hi => ?_, fun s h => exec_destinationWrite_none h⟩
  intro addr t record moved stored
  have haddr : addr = j.destinationAt i := by
    simp only [addr, Job.destinationAt, Job.offset]
    cases j.direction <;> rfl
  rw [exec_destinationWrite_half hn hg hjobs hword]
  refine ⟨fun hc => ⟨fun hmark => ?marked, fun hmark hlast => ?last, fun hmark hnext => ?next⟩, fun d hc => ?rights,
    fun d l c hc => ?guard⟩ <;> rw [haddr] at hc
  case marked => simp only [destinationHalf, hc, afterWord, hmark, if_true, stored, moved, haddr]; rfl
  case last =>
    simp only [destinationHalf, hc, afterWord, hmark, Bool.false_eq_true, if_false, if_pos hlast.ge, stored, moved, haddr]
    rfl
  case next =>
    simp only [destinationHalf, hc, afterWord, hmark, Bool.false_eq_true, if_false, if_neg (Nat.not_le.mpr hnext), stored,
      moved, haddr]
    rfl
  case rights => simp only [destinationHalf, hc, faultJob_refused, record, haddr, t]
  case guard => simp only [destinationHalf, hc, faultJob_refused, record, haddr, t]

/-! ### The direction (R146) -/

theorem moveAll_append (j : Job) (is ks : List Nat) :
    ∀ m : Store, j.moveAll (is ++ ks) m = j.moveAll ks (j.moveAll is m) := by
  induction is with
  | nil => exact fun m => rfl
  | cons i is ih => exact fun m => ih _

section
variable {j : Job} (hsrc : j.source.toNat + j.count ≤ 0x8000) (hdst : j.destination.toNat + j.count ≤ 0x8000)

theorem offset_lt {i : Nat} (hi : i < j.count) : j.offset i < j.count := by
  unfold Job.offset
  split
  · exact hi
  · omega

theorem offset_injective {i k : Nat} (hi : i < j.count) (hk : k < j.count) (h : j.offset i = j.offset k) : i = k := by
  unfold Job.offset at h
  split at h
  · exact h
  · omega

include hsrc in
theorem toNat_sourceAt {i : Nat} (hi : i < j.count) : (j.sourceAt i).toNat = j.source.toNat + j.offset i := by
  have := offset_lt hi
  rw [Job.sourceAt, BitVec.toNat_add, BitVec.toNat_ofNat]
  omega

include hdst in
theorem toNat_destinationAt {i : Nat} (hi : i < j.count) :
    (j.destinationAt i).toNat = j.destination.toNat + j.offset i := by
  have := offset_lt hi
  rw [Job.destinationAt, BitVec.toNat_add, BitVec.toNat_ofNat]
  omega

/-- In the direction of R146 no word is written before it is read. -/
theorem source_unwritten (hdir : j.direction = directionOf j.source.toNat j.destination.toNat j.count) {i k : Nat}
    (hik : i < k) (hk : k < j.count) : j.source.toNat + j.offset k ≠ j.destination.toNat + j.offset i := by
  unfold directionOf at hdir
  unfold Job.offset
  split at hdir <;> rw [hdir] <;> dsimp only <;> omega

/-- After `k` words the destination words written so far hold what the source words held, and the rest of the store is
as it was. -/
structure Job.MovedWords (j : Job) (m m' : Store) (k : Nat) : Prop where
  wf : storeWf m'
  written : ∀ i, i < k → storeRead m' (j.destination.toNat + j.offset i) = storeRead m (j.source.toNat + j.offset i)
  unwritten : ∀ a, (∀ i, i < k → a ≠ j.destination.toNat + j.offset i) → storeRead m' a = storeRead m a

include hsrc hdst in
theorem movedWords_moveAll {m : Store} (hm : storeWf m)
    (hdir : j.direction = directionOf j.source.toNat j.destination.toNat j.count) (k : Nat) (hk : k ≤ j.count) :
    j.MovedWords m (j.moveAll (List.range k) m) k := by
  induction k with
  | zero => exact ⟨hm, fun i hi => absurd hi (Nat.not_lt_zero i), fun a _ => rfl⟩
  | succ k ih =>
    obtain ⟨hwf, hwritten, hunwritten⟩ := ih (Nat.le_of_succ_le hk)
    have hlt := offset_lt hk
    have hread : storeRead (j.moveAll (List.range k) m) (j.source.toNat + j.offset k) =
        storeRead m (j.source.toNat + j.offset k) :=
      hunwritten _ fun i hi => source_unwritten hdir hi hk
    have hstep : j.moveAll (List.range (k + 1)) m = storeWrite (j.moveAll (List.range k) m)
        (j.destination.toNat + j.offset k) (storeRead m (j.source.toNat + j.offset k)) := by
      rw [List.range_succ, moveAll_append, ← hread, ← toNat_sourceAt hsrc hk, ← toNat_destinationAt hdst hk]
      rfl
    rw [hstep]
    refine ⟨storeWrite_wf _ _ _ hwf (by simp only [Config.storeWords]; omega), fun i hi => ?_, fun a ha => ?_⟩
    · rw [storeRead_storeWrite _ hwf.1]
      rcases Nat.lt_succ_iff_lt_or_eq.mp hi with hi | rfl
      · have hne : j.offset i ≠ j.offset k := fun h => hi.ne (offset_injective (hi.trans hk) hk h)
        rw [if_neg (by omega), hwritten i hi]
      · rw [if_pos rfl]
    · rw [storeRead_storeWrite _ hwf.1, if_neg (ha k (Nat.lt_succ_self k)),
        hunwritten a fun i hi => ha i (hi.trans (Nat.lt_succ_self k))]

end

/-- Every word of the block is moved by some index. -/
theorem exists_offset (j : Job) {i : Nat} (hi : i < j.count) : ∃ k, k < j.count ∧ j.offset k = i := by
  cases hdir : j.direction with
  | ascending => exact ⟨i, hi, by simp [Job.offset, hdir]⟩
  | descending => exact ⟨j.count - 1 - i, by omega, by simp only [Job.offset, hdir]; omega⟩

/-- Settles O41. -/
theorem copyDirectionOverlapSafe : Obligations.CopyDirectionOverlapSafe := by
  intro j m hm hsrc hdst hdir
  obtain ⟨-, hwritten, hunwritten⟩ := movedWords_moveAll hsrc hdst hm hdir j.count le_rfl
  refine ⟨fun i hi => ?_, fun a ha => hunwritten a fun i hi => ?_⟩
  · obtain ⟨k, hk, rfl⟩ := exists_offset j hi
    exact hwritten k hk
  · have := offset_lt hi
    omega

end Sys2Proof.Machine
end

section
/-! The ports: the pins, detach and reattach, the teardown events and the completion event, the detached window, and the
cycle that waits behind an open one. -/

namespace Sys2Proof.Machine

variable {p q : PortId} {l : LockId} {s t u : State}

/-! ### Peers (R198, R199) -/

/-- PEER_CHANGE changes records of ports only. -/
theorem peerChange_ports : peerChange p s = { s with ports := (peerChange p s).ports } := by
  have key : ∀ (qs : List PortId) (t : State), ∃ ps,
      qs.foldl (fun t q => if q ≠ p ∧ (t.port q).attach.attached then setCause q .peerChange t else t) t =
        { t with ports := ps } := by
    intro qs
    induction qs with
    | nil => exact fun t => ⟨t.ports, rfl⟩
    | cons q qs ih =>
      intro t
      obtain ⟨ps, hps⟩ := ih (if q ≠ p ∧ (t.port q).attach.attached then setCause q .peerChange t else t)
      rw [List.foldl_cons, hps]
      split
      · exact ⟨ps, rfl⟩
      · exact ⟨ps, rfl⟩
  obtain ⟨ps, hps⟩ := key allPorts s
  rw [peerChange, hps]

theorem peersTold_peerChange : PeersTold p s (peerChange p s) where
  left := peerChange_ports
  right := by
    refine ⟨by simp [port_peerChange], fun q hq => ?_⟩
    rw [port_peerChange]
    simp only [ne_eq, hq, not_false_eq_true, true_and]
    rfl

/-- A change of the port's own record, once its peers are told. -/
theorem PeersTold.modPort (h : PeersTold p s t) (f : PortRecord → PortRecord) :
    PeersTold p (modPort p f s) (modPort p f t) := by
  obtain ⟨hrest, hself, hothers⟩ := h
  refine ⟨?_, by simp [Machine.modPort, hself], fun q hq => by simpa [Machine.modPort, hq] using hothers q hq⟩
  rw [hrest]
  rfl

/-- Telling the peers once more changes nothing. -/
theorem PeersTold.again (h : PeersTold p s t) : PeersTold p s (peerChange p t) := by
  obtain ⟨hrest, hself, hothers⟩ := h
  refine ⟨?_, by rw [port_peerChange]; simpa using hself, fun q hq => ?_⟩
  · rw [peerChange_ports, hrest]
  · rw [port_peerChange, hothers q hq]
    by_cases ha : (s.port q).attach.attached = true
    · simp [ha, hq, InterruptRecord.raised, BitVec.or_assoc]
    · simp [ha]

/-! ### The pins nPRST (R189, R190, R197, R203) -/

theorem detach_pin (r : PortRecord) : r.detach .pin = r.detachedBy .pin r.bus.inReset := rfl

/-- Settles O47. -/
theorem portResetPins : Obligations.PortResetPins := by
  intro p s
  refine ⟨fun hp => ?asserted, fun hp => ⟨fun hn => ?underReset, fun hn ha => ?detaches, fun hn ha => ?detached⟩,
    fun h => ?rejoins, fun h => ?released⟩
  case asserted => simp [exec, execPortResetAssert, assertPin, hp]
  case underReset => simp [exec, execPortResetAssert, assertPin, hp, hn, modPort]
  case detaches => simp [exec, execPortResetAssert, assertPin, hp, hn, ha, modPort, detachPort, detach_pin]; rfl
  case detached =>
    simp [exec, execPortResetAssert, assertPin, hp, hn, ha, modPort, modAttach, modBus]
    rfl
  case rejoins =>
    obtain ⟨hpin, hn, ha, hreason, hpending⟩ := h
    refine ⟨releasePin p s, rfl, ?_⟩
    simp only [releasePin, hpin, hn, ha, hreason, hpending, Bool.false_eq_true, not_false_eq_true, and_self, if_true, reattach]
    simpa [modAttach, modPort] using
      peersTold_peerChange (p := p)
        (s := modAttach p (fun _ => AttachRecord.attachedNow) (modPort p (fun r => { r with prst := false }) s))
  case released =>
    have hno : ¬ ((s.port p).prst = true ∧ ¬ s.nrst = true ∧ ¬ (s.port p).attach.attached = true ∧
        (s.port p).attach.reason = .pin ∧ ¬ (s.port p).attach.pending = true) := by simpa using h
    simp only [exec, execPortResetRelease, releasePin, if_neg hno]
    rfl

/-! ### DETACH and LEAVE (R188, R190, R191) -/

theorem detach_command (r : PortRecord) :
    r.detach .command = r.detachedBy .command (r.bus.detach .command r.detachedData) := rfl

theorem readData_returns (a : HostAccess) (w : Word) : a.readData w = a.returns w := by cases a <;> rfl

section
variable {r : PortRecord}

/-- What becomes of the bus of a port detached by command, by the kind of its open cycle (R85, R112, R141). -/
theorem bus_detach_store {a : HostAccess} (h : r.bus.phase = .store) (ha : r.engine.request = some a) :
    r.bus.detach .command r.detachedData = r.bus.complete (a.returns 0) false := by
  simp [Bus.detach, PortRecord.detachedData, h, ha, readData_returns]

theorem bus_detach_claim {x : HeldAccess} (h : r.bus.phase = .claim) (hx : r.held = some x) :
    r.bus.detach .command r.detachedData = r.bus.complete (x.access.returns 0) false := by
  simp [Bus.detach, PortRecord.detachedData, h, hx, readData_returns]

theorem bus_detach_send {d : PortId} (h : r.bus.phase = .send d) :
    r.bus.detach .command r.detachedData = r.bus.complete none false := by
  simp [Bus.detach, PortRecord.detachedData, h]

theorem bus_detach_idle {reason : DetachReason} {data : Option Word} {b : Bus} (h : b.phase = .idle) (hr : reason ≠ .pin) :
    b.detach reason data = b := by
  cases reason <;> simp_all [Bus.detach]

end

section
variable (hr : Ready s p) (hp : p = s.configPort)
include hr hp

/-- A DETACH of another attached port: its detach event, and the end of the command's cycle. -/
theorem exec_detach_attached (hq : q ≠ p) (ha : (s.port q).attach.attached = true) {b : Bus}
    (hb : (s.port q).bus.detach .command (s.port q).detachedData = b) :
    exec (.detach p q) s =
      .next (settle ((setPort q ((s.port q).detachedBy .command b) s).after p id none)) := by
  refine windowCommand_config hr hp ?_
  have ha' : ((modBus p (fun _ => Bus.begin) s).port q).attach.attached = true := by simpa using ha
  rw [if_neg hq, if_pos ha', ← hb]
  simp only [detachPort, modPort, modBus_begin_eq, done_eq, detach_command, port_setPort_ne _ _ _ _ hq,
    port_setPort_ne _ _ _ _ (Ne.symm hq), port_setPort_self, State.after, setPort_comm p q _ _ _ (Ne.symm hq),
    setPort_setPort]
  rfl

end

/-- Settles O46: the kinds of open cycle in the order of the statement. -/
theorem detachAndLeave : Obligations.DetachAndLeave := by
  refine ⟨fun p q s hr hp => ⟨fun hq => ?self, fun hq ha => ?detached, fun hq ha =>
    ⟨fun a hphase hreq => exec_detach_attached hr hp hq ha (bus_detach_store hphase hreq),
      fun h hphase hheld => exec_detach_attached hr hp hq ha (bus_detach_claim hphase hheld),
      fun d hphase => exec_detach_attached hr hp hq ha (bus_detach_send hphase),
      fun hphase => exec_detach_attached hr hp hq ha (bus_detach_idle hphase (by simp))⟩⟩, fun p s hr => ?leave⟩
  case self =>
    refine windowCommand_config hr hp ?_
    rw [if_pos hq]
    exact badValue_begin .portCmd
  case detached =>
    have ha' : ¬ ((modBus p (fun _ => Bus.begin) s).port q).attach.attached = true := by simp [ha]
    refine windowCommand_config hr hp ?_
    rw [if_neg hq, if_neg ha', done_begin]
  case leave =>
    refine windowCommand_answer hr ?_
    rw [leavePort, done_begin]
    simp [detachPort, modPort, State.after, PortRecord.detach, PortRecord.detachedBy, bus_detach_idle, Bus.answered]

/-! ### The teardown at the lock table (R193, R194) -/

theorem mem_allLocks (l : LockId) : l ∈ allLocks := List.mem_finRange l

theorem nodup_allLocks : allLocks.Nodup := List.nodup_finRange 32

theorem mem_heldLocks : l ∈ s.heldLocks p ↔ (s.lock l).state = .held p := by
  simp [State.heldLocks, mem_allLocks]

theorem nodup_heldLocks : (s.heldLocks p).Nodup := nodup_allLocks.filter _

theorem exec_withdrawal (h : TearingDown s p) (hw : (s.port p).attach.withdrawn = false) :
    exec (.withdrawal p) s = .next (withdraw p s) :=
  congrArg Host.Outcome.next (teardown_taken (withdraw p) h (by simp [hw]))

theorem withdraw_waiting {k : WaitKind} (h : (s.port p).lock.request = .waiting l k) : withdraw p s =
    setPort p { s.port p with
      lock := { (s.port p).lock with request := .idle }
      attach := { (s.port p).attach with withdrawn := true, toRelease := s.heldLocks p } }
      (setLock l { s.lock l with waiters := dropWaiter p (s.lock l).waiters } s) := by
  simp only [withdraw, h, removeWaiter, modLock_eq, writeRequest_eq, modAttach_eq, port_setLock, port_setPort_self,
    setPort_setPort]

theorem withdraw_notWaiting (h : (s.port p).lock.request.isWaiting = false) : withdraw p s =
    setPort p { s.port p with attach := { (s.port p).attach with withdrawn := true, toRelease := s.heldLocks p } } s := by
  unfold withdraw
  cases hreq : (s.port p).lock.request with
  | waiting m k => simp [hreq, RequestRecord.isWaiting] at h
  | idle | granted | timedOut | cancelled => exact modAttach_eq p s _

theorem exec_releaseEvent (h : TearingDown s p) (hw : (s.port p).attach.withdrawn = true)
    (hl : l ∈ (s.port p).attach.toRelease) : exec (.releaseEvent p l) s = .next (settle (releaseHeld p l s)) :=
  congrArg (fun t => Host.Outcome.next (settle t)) (teardown_taken (releaseHeld p l) h (by simp [hw, hl]))

/-- Settles O48. -/
theorem withdrawalAndRelease : Obligations.WithdrawalAndRelease := by
  intro p s
  refine ⟨fun h hw => ⟨s.heldLocks p, nodup_heldLocks, fun l => mem_heldLocks, fun l k hreq => ?waiting, fun hreq => ?idle⟩,
    fun l h hw hl => ⟨fun hheld ho => ?handover, fun hheld ho => ?orphan, fun hheld => ?notHeld⟩,
    fun h => ?noWithdrawal, fun l h => ?noRelease⟩
  case waiting => rw [exec_withdrawal h hw, withdraw_waiting hreq]; rfl
  case idle => rw [exec_withdrawal h hw, withdraw_notWaiting hreq]
  case handover => simp only [exec_releaseEvent h hw hl, releaseHeld, if_pos hheld, ho]; rfl
  case orphan => simp only [exec_releaseEvent h hw hl, releaseHeld, if_pos hheld, ho]; rfl
  case notHeld => simp only [exec_releaseEvent h hw hl, releaseHeld, if_neg hheld]; rfl
  case noWithdrawal =>
    refine congrArg Host.Outcome.next (teardown_none (withdraw p) ?_)
    simpa using h
  case noRelease =>
    refine congrArg (fun t => Host.Outcome.next (settle t)) (teardown_none (releaseHeld p l) ?_)
    refine h.imp_right fun h => ?_
    rcases h with h | h
    · simp [h]
    · simp [h]

/-! ### The teardown at the copy engine (R163) -/

theorem removeJob_absent (h : ∀ j ∈ s.jobs, j.requester ≠ p) : removeJob p s = s := by
  unfold removeJob
  split
  next => rfl
  next j js hjobs =>
    have hfilter : js.filter (fun k => decide (k.requester ≠ p)) = js :=
      List.filter_eq_self.mpr fun k hk => decide_eq_true (h k (by simp [hjobs, hk]))
    rw [if_neg (h j (by simp [hjobs])), hfilter, ← hjobs]

/-- Settles O50. -/
theorem copyTeardown : Obligations.CopyTeardown := by
  intro p s h hdown hjobs
  have htaken : exec (.copyEngineTeardown p) s = .next (tearDownCopy p s) :=
    congrArg Host.Outcome.next (teardown_taken (tearDownCopy p) h (by simp [hdown]))
  refine ⟨fun hj => ?removed, fun hj => ?absent⟩ <;> rw [htaken, tearDownCopy]
  case removed => rw [removeJob_withoutJobOf hjobs hj]; rfl
  case absent => rw [removeJob_absent hj]; rfl

/-! ### The completion event (R196, R197) -/

theorem allDown_iff {a : AttachRecord} : a.allDown = true ↔
    a.withdrawn = true ∧ a.toRelease = [] ∧ a.messagesDown = true ∧ a.copyDown = true := by
  simp [AttachRecord.allDown, and_assoc]

theorem peersTold_complete : PeersTold p (setPort p { (s.port p).toReset with
    attach := if (s.port p).attach.reason = .pin ∧ (s.port p).prst = false then AttachRecord.attachedNow
              else (s.port p).toReset.attach } s) (complete p s) := by
  have htold := peersTold_peerChange (p := p) (s := modPort p PortRecord.toReset s)
  unfold complete
  by_cases h : (s.port p).attach.reason = .pin ∧ (s.port p).prst = false
  · rw [if_pos h, if_pos (by simpa using h)]
    have hagain := (htold.modPort (fun r => { r with attach := AttachRecord.attachedNow })).again
    simpa [modPort, reattach, modAttach] using hagain
  · rw [if_neg h, if_neg (by simpa using h)]
    exact htold

/-- Settles O51. -/
theorem completionOutcome : Obligations.CompletionOutcome := by
  intro p s
  refine ⟨fun h hdown => ⟨complete p s, ?taken, ?told⟩, fun h => ?none⟩
  case taken => exact congrArg Host.Outcome.next (teardown_taken (complete p) h (allDown_iff.mpr hdown))
  case told => exact peersTold_complete
  case none =>
    refine congrArg Host.Outcome.next (teardown_none (complete p) (h.imp_right fun h => ?_))
    exact Bool.eq_false_iff.mpr (mt allDown_iff.mp h)

/-! ### The detached window (R192, R197, R212) -/

theorem windowCommand_detached (hr : ReadyDetached s p) {c : BusCycle} {body : State → State}
    (h : detachedCycle p c (modBus p (fun _ => Bus.begin) s) = t) : windowCommand p c body s = .next (settle t) := by
  rw [windowCommand, hostCycle_detached p s hr, h]

theorem completeCycle_begin (data : Option Word) :
    completeCycle p data false (modBus p (fun _ => Bus.begin) s) = s.after p id data := done_begin data

theorem portIdWord_eq (own config : PortId) : portIdWord own config = BitVec.ofNat 16 (256 * config.val + own.val) := by
  apply BitVec.eq_of_toNat_eq
  have hown := own.isLt
  have hconfig := config.isLt
  have hzero : (0 : BitVec 6).toNat = 0 := rfl
  simp only [portIdWord, toNat_append_eq_mul_add, BitVec.toNat_ofNat, hzero]
  omega

theorem portStateWord_detached {a : AttachRecord} (h : a.attached = false) : portStateWord a = BitVec.ofNat 16 (0x8000 +
    256 * (match a.reason with | .none => 0 | .pin => 1 | .command => 2 | .leave => 3) + a.pending.toNat) := by
  cases hreason : a.reason <;> cases hpending : a.pending <;> simp [portStateWord, h, hreason, hpending, bit] <;> rfl

/-- What a detached window reads, by word address. -/
theorem detachedRead_eq (addr : BitVec 6) (h : (s.port p).attach.attached = false) :
    detachedRead s p addr =
      if addr = 0 then BitVec.ofNat 16 (256 * s.configPort.val + p.val)
      else if addr = 1 then BitVec.ofNat 16 (0x8000 + 256 *
        (match (s.port p).attach.reason with | .none => 0 | .pin => 1 | .command => 2 | .leave => 3) +
          (s.port p).attach.pending.toNat)
      else 0 := by
  by_cases h0 : addr = 0
  · subst h0
    exact portIdWord_eq p s.configPort
  · by_cases h1 : addr = 1
    · subst h1
      exact portStateWord_detached h
    · rw [if_neg h0, if_neg h1]
      unfold detachedRead
      split
      next hreg => exact absurd (regAddr_of_regAt hreg).symm h0
      next hreg => exact absurd (regAddr_of_regAt hreg).symm h1
      next => rfl

theorem detachedRead_begin (addr : BitVec 6) :
    detachedRead (modBus p (fun _ => Bus.begin) s) p addr = detachedRead s p addr := by
  unfold detachedRead
  rw [attach_begin]
  rfl

theorem detachedCycle_read (addr : BitVec 6) :
    detachedCycle p ⟨addr, .read⟩ (modBus p (fun _ => Bus.begin) s) = s.after p id (some (detachedRead s p addr)) := by
  simp only [detachedCycle, detachedRead_begin, completeCycle_begin]

/-- A write that is no JOIN which reattaches is ignored. -/
theorem detachedCycle_ignored {addr : BitVec 6} {w : Word}
    (h : ¬ (regAt addr = some .portState ∧ lowCode w = 2 ∧ (s.port p).attach.joinable = true)) :
    detachedCycle p ⟨addr, .write w⟩ (modBus p (fun _ => Bus.begin) s) = s.after p id none := by
  simp only [detachedCycle, attach_begin, if_neg h, completeCycle_begin]

theorem detachedCycle_joins (h : (s.port p).attach.joinable = true) :
    detachedCycle p (cycleAt .portState (.write 2)) (modBus p (fun _ => Bus.begin) s) =
      completeCycle p none false (reattach p (modBus p (fun _ => Bus.begin) s)) := by
  refine if_pos ⟨rfl, rfl, ?_⟩
  rw [attach_begin]
  exact h

theorem joinable_iff {a : AttachRecord} (h : a.attached = false) :
    a.joinable = true ↔ (a.reason = .command ∨ a.reason = .leave) ∧ a.pending = false := by
  simp [AttachRecord.joinable, h]

theorem peersTold_join : PeersTold p (s.after p (fun r => { r with attach := AttachRecord.attachedNow }) none)
    (completeCycle p none false (reattach p (modBus p (fun _ => Bus.begin) s))) := by
  have htold := (peersTold_peerChange (p := p) (s := modAttach p (fun _ => AttachRecord.attachedNow)
    (modBus p (fun _ => Bus.begin) s))).modPort fun r => { r with bus := r.bus.complete none false }
  simpa [modPort, modAttach, modBus, State.after, reattach, completeCycle] using htold

/-- Settles O44. -/
theorem detachedWindow : Obligations.DetachedWindow := by
  refine ⟨fun p s hr => ⟨fun addr => ?read, fun addr w h => ?write, fun i c hc => ?every, fun hreason hpending => ?joins,
    fun h => ?stays⟩, fun p s hr => ?attached⟩
  case read =>
    exact windowCommand_detached hr ((detachedCycle_read addr).trans
      (congrArg (fun w => s.after p id (some w)) (detachedRead_eq addr hr.detached)))
  case write =>
    refine windowCommand_detached hr (detachedCycle_ignored fun ⟨hreg, hcode, _⟩ => h ⟨(regAddr_of_regAt hreg).symm, hcode⟩)
  case every => exact exec_window hc
  case joins =>
    exact ⟨_, windowCommand_detached hr (detachedCycle_joins ((joinable_iff hr.detached).mpr ⟨hreason, hpending⟩)),
      peersTold_join⟩
  case stays =>
    refine windowCommand_detached hr (detachedCycle_ignored fun ⟨_, _, hjoin⟩ => ?_)
    obtain ⟨hreason, hpending⟩ := (joinable_iff hr.detached).mp hjoin
    rcases h with h | h | h
    · simp [h] at hreason
    · simp [h] at hreason
    · simp [h] at hpending
  case attached => exact windowCommand_answer hr (done_begin none)

/-! ### The cycle that waits (R203 to R206, R208) -/

theorem endCycle_completed {b : Bus} (hst : b.strobe = true) (hi : b.phase = .idle) :
    b.endCycle = { b with strobe := false, data := none, nerrLow := false } := by
  simp [Bus.endCycle, hst, hi]

theorem endCycle_open {b : Bus} (hst : b.strobe = true) (hi : b.phase ≠ .idle) :
    b.endCycle = { b with strobe := false, next := none } := by
  cases h : b.phase <;> simp_all [Bus.endCycle]

theorem endCycle_none {b : Bus} (hst : b.strobe = false) : b.endCycle = b := by
  simp [Bus.endCycle, hst]

/-- With as many rounds as ports wait, one more round takes no further cycle. -/
theorem settleWithin_succ (n : Nat) : ∀ s : State, s.waiting.card ≤ n → settleWithin (n + 1) s = settleWithin n s := by
  induction n with
  | zero =>
    intro s h
    have hnone : allPorts.find? s.cycleDue = none := by simp [cycleDue_of_card_zero h]
    simp [settleWithin, hnone]
  | succ n ih =>
    intro s h
    rw [settleWithin, settleWithin]
    cases hfind : allPorts.find? s.cycleDue with
    | none => rfl
    | some q => exact ih _ (Nat.le_of_lt_succ ((takeWaiting_waiting (List.find?_some hfind)).trans_le h))

/-- The end of an event takes the cycle of the lowest-numbered port that has one due, and then those that remain. -/
theorem settle_takes (h : s.cycleDue p = true) (hp : ∀ q, q < p → s.cycleDue q = false) :
    settle s = settle (takeWaiting p s) := by
  have hcard : (takeWaiting p s).waiting.card ≤ 3 :=
    Nat.le_of_lt_succ ((takeWaiting_waiting h).trans_le (card_waiting_le s))
  rw [settle, settleWithin_take p s 3 h hp, settle, settleWithin_succ 3 _ hcard]

theorem cycleDue_iff : s.cycleDue p = true ↔ s.nrst = false ∧ (s.port p).prst = false ∧ (s.port p).bus.strobe = true ∧
    (s.port p).bus.phase = .idle ∧ (s.port p).bus.next ≠ none := by
  simp [State.cycleDue, State.busInReset, Option.isSome_iff_ne_none, and_assoc]

theorem begin_begin : modBus p (fun _ => Bus.begin) (modBus p (fun _ => Bus.begin) s) = modBus p (fun _ => Bus.begin) s := by
  simp [modBus_begin_eq]

/-- The cycle that is due is taken as the command it decodes to. -/
theorem exec_decodeCycle_due {c : BusCycle} (hdue : s.cycleDue p = true) (hlow : ∀ q, q < p → s.cycleDue q = false)
    (hc : (s.port p).bus.next = some c) (ha : (s.port p).attach.attached = true) :
    exec (decodeCycle p c) (modBus p (fun _ => Bus.begin) s) = .next (settle s) := by
  obtain ⟨hn, hpin, -, -, -⟩ := cycleDue_iff.mp hdue
  obtain ⟨d, hd⟩ := exec_decodeCycle (p := p) (s := modBus p (fun _ => Bus.begin) s) c
  have hready : Ready (modBus p (fun _ => Bus.begin) s) p := ⟨hn, by simpa, by rw [port_begin_self]; rfl, by simpa⟩
  rw [hd, windowCommand_ready hready, begin_begin, settle_takes hdue hlow, takeWaiting_attached p s c hc ha]

theorem exec_detachedCycle_due {c : BusCycle} (hdue : s.cycleDue p = true) (hlow : ∀ q, q < p → s.cycleDue q = false)
    (hc : (s.port p).bus.next = some c) (ha : (s.port p).attach.attached = false) :
    exec (.detachedWindowCycle p c.addr c.op) (modBus p (fun _ => Bus.begin) s) = .next (settle s) := by
  obtain ⟨hn, hpin, -, -, -⟩ := cycleDue_iff.mp hdue
  have hready : ReadyDetached (modBus p (fun _ => Bus.begin) s) p := ⟨hn, by simpa, by rw [port_begin_self]; rfl, by simpa⟩
  refine windowCommand_detached hready ?_ |>.trans (congrArg Host.Outcome.next (settle_takes hdue hlow).symm)
  rw [begin_begin, takeWaiting_detached p s c hc ha]

/-- Settles O45. -/
theorem cycleEndAndWaitingCycle : Obligations.CycleEndAndWaitingCycle := by
  refine ⟨fun p s => ⟨fun hst hi => ?completed, fun hst hi => ?opened, fun hst => ?noStrobe, fun i c hc =>
    ⟨fun hn hpin hi => ?waits, fun h => ?inReset⟩⟩, fun b data err => ⟨fun hst hnext => bus_complete_answered b data err hnext hst,
    fun hst hnext => ?unseen, fun hst => bus_complete_unseen b data err hst⟩, fun s => ⟨fun h => ?none,
    fun p c hdue hlow hc => ⟨fun ha => ?attached, fun ha => ?detached⟩, settle_ok s, cycleDue_settle s⟩⟩
  case completed => simp only [exec, execCycleEnd, modBus_eq, endCycle_completed hst hi]
  case opened => simp only [exec, execCycleEnd, modBus_eq, endCycle_open hst hi]
  case noStrobe =>
    simp only [exec, execCycleEnd, modBus_eq, endCycle_none hst]
    exact congrArg Host.Outcome.next (setPort_port p s)
  case waits =>
    rw [exec_window hc, windowCommand, hostCycle_open p s (by simp [State.busInReset, hn, hpin]) hi]
    rfl
  case inReset =>
    rw [exec_window hc, windowCommand, hostCycle_inReset p s (by simpa [State.busInReset] using h)]
    rfl
  case unseen =>
    rw [bus_complete_waiting b data err hst hnext, hst]
  case none => exact settle_none s fun q => Bool.eq_false_iff.mpr (mt cycleDue_iff.mp (h q))
  case attached =>
    exact exec_decodeCycle_due (cycleDue_iff.mpr hdue)
      (fun q hq => Bool.eq_false_iff.mpr (mt cycleDue_iff.mp (hlow q hq))) hc ha
  case detached =>
    exact exec_detachedCycle_due (cycleDue_iff.mpr hdue)
      (fun q hq => Bool.eq_false_iff.mpr (mt cycleDue_iff.mp (hlow q hq))) hc ha

end Sys2Proof.Machine
end

section
/-! The two edges of nRST, the state after reset, and what every register shows: each word of a register as the number whose
digits are its fields. -/

namespace Sys2Proof.Machine

variable {p q : PortId} {l : LockId} {s t u : State}

/-! ### nRST (R183, R202) -/

theorem lock_reset (l : LockId) : State.reset.lock l = LockRecord.reset := by
  simp [State.reset, State.lock, Vector.get_eq_getElem]

theorem port_reset (p : PortId) : State.reset.port p = PortRecord.reset := by
  simp [State.reset, State.port, Vector.get_eq_getElem]

theorem lock_assertReset (l : LockId) : (assertReset s).lock l = LockRecord.reset := lock_reset l

theorem strapPort_val (a b : Bool) : (strapPort a b).val = 2 * a.toNat + b.toNat := by
  cases a <;> cases b <;> rfl

theorem resetReleased_eq (r : PortRecord) : r.resetReleased =
    { r with attach := { attached := !r.prst, reason := if r.prst then .pin else .none, pending := false,
                         withdrawn := false, toRelease := [], messagesDown := false, copyDown := false } } := by
  cases h : r.prst <;> simp [PortRecord.resetReleased, AttachRecord.attachedNow, h]

theorem exec_resetRelease (a b : Bool) (h : s.nrst = true) : exec (.resetRelease a b) s =
    .next { s with nrst := false, configPort := strapPort a b, interval := s.tick
                   ports := s.ports.map PortRecord.resetReleased } := by
  simp [exec, execResetRelease, releaseReset, h]

/-- Settles O5. -/
theorem deviceResetAndRelease : Obligations.DeviceResetAndRelease := by
  intro s
  refine ⟨⟨assertReset s, rfl, rfl, lock_assertReset, desc_reset, fun p => port_assertReset, fun p => ⟨?rdy, rfl⟩⟩,
    fun a b hn => ⟨_, exec_resetRelease a b hn, rfl, strapPort_val a b, fun p => ?port⟩, fun a b hn => ?noRelease⟩
  case rdy =>
    rw [State.rdyLow, port_assertReset]
    rfl
  case port =>
    rw [← resetReleased_eq]
    simp [State.port, Vector.get_eq_getElem]
  case noRelease => simp [exec, execResetRelease, releaseReset, hn]

/-! ### The invariants at reset -/

theorem heldLocks_of_free (h : ∀ l, (s.lock l).state = .free) : s.heldLocks p = [] := by
  simp [State.heldLocks, h]

theorem lockTableOk_reset : LockTableOk State.reset where
  freeEmpty l _ := by rw [lock_reset]; rfl
  holderApart l h hheld := by rw [lock_reset] at hheld; cases hheld
  entryOnce l := by rw [lock_reset]; exact List.nodup_nil
  entryRecorded l w hw := by rw [lock_reset] at hw; cases hw
  recordEntered p l k hreq := by rw [port_reset] at hreq; cases hreq
  rankOrder l _ := by rw [lock_reset]; exact List.Pairwise.nil
  heldClaim p h hheld := by rw [port_reset] at hheld; cases hheld
  claimHeld p l _ hreq := by rw [port_reset] at hreq; cases hreq
  heldPhase p hheld := by rw [port_reset] at hheld; cases hheld
  requestPhase p hreq := by rw [port_reset] at hreq; cases hreq
  detachedQuiet p ha := by rw [port_reset] at ha; cases ha
  withdrawnDone p ha := by rw [port_reset] at ha; cases ha
  underReset h := by cases h

theorem messagesOk_reset : MessagesOk State.reset where
  words q := by rw [port_reset]; exact Nat.zero_le _
  staged p := by rw [port_reset]; exact Nat.zero_le _
  entrySender q e he := by rw [port_reset] at he; cases he
  entryLength q e he := by rw [port_reset] at he; cases he
  entryHeld q e he := by rw [port_reset] at he; cases he
  entryOnce q := by rw [port_reset]; exact List.nodup_nil
  sendEntered p q h := by rw [port_reset] at h; cases h
  entryOneList q q' e he := by rw [port_reset] at he; cases he
  heldPhase p h := by rw [port_reset] at h; cases h
  requestPhase p h := by rw [port_reset] at h; cases h
  detachedEnded p h := by rw [port_reset] at h; cases h
  underReset h := by cases h

/-- Settles O4. -/
theorem invariantsHoldAtReset : Obligations.InvariantsHoldAtReset := by
  refine ⟨storeWf_reset, fun p h => ?revoked, configLegal_reset, fun p => ?faults, lockTableOk_reset, fun p => ?holdMax,
    jobsOk_nil rfl rfl, messagesOk_reset, ⟨fun p h => ?waits, fun p _ => ?noneWaits⟩, queuesOrdered_iff.mpr fun q => ?queue⟩
  case revoked => rw [port_reset] at h; exact absurd rfl h
  case faults => rw [port_reset]; exact Nat.zero_le _
  case holdMax =>
    rw [State.holdCount, heldLocks_of_free fun l => by rw [lock_reset]; rfl, port_reset]
    exact Nat.zero_le _
  case waits => rw [port_reset] at h; cases h
  case noneWaits => rw [port_reset]; rfl
  case queue => rw [port_reset]; exact inOrder_closed rfl List.Pairwise.nil

/-! ### The registers after reset (Table 10-3) -/

/-- The state after both edges of nRST. -/
def State.released (s : State) (a b : Bool) : State := releaseReset a b (assertReset s)

theorem port_released (a b : Bool) (p : PortId) : (s.released a b).port p = (s.port p).deviceReset.resetReleased := by
  rw [State.released, port_releaseReset a b rfl, port_assertReset]

/-- But for its bus, a port whose pin is released has the records of an attached port at reset. -/
theorem port_released_attached (a b : Bool) (h : (s.port p).prst = false) :
    (s.released a b).port p = { PortRecord.reset with bus := { Bus.reset with strobe := (s.port p).bus.strobe } } := by
  simp [port_released, PortRecord.resetReleased, PortRecord.deviceReset, h, PortRecord.reset]

theorem lock_released (a b : Bool) (l : LockId) : (s.released a b).lock l = LockRecord.reset := lock_reset l

theorem heldBits_released (a b : Bool) : (s.released a b).heldBits p = 0 := by
  rw [State.heldBits, heldLocks_of_free fun l => by rw [lock_released]; rfl]
  rfl

theorem attached_released (a b : Bool) (q : PortId) : ((s.released a b).port q).attach.attached = !(s.port q).prst := by
  rw [port_released, resetReleased_eq]
  rfl

theorem getLsbD_bit_append {n : Nat} (x : BitVec n) (b : Bool) (i : Nat) :
    (x ++ bit b).getLsbD i = if i = 0 then b else x.getLsbD (i - 1) := by
  rw [BitVec.getLsbD_append]
  cases i <;> cases b <;> simp [bit]

theorem getLsbD_peersWord (n : Nat) : (peersWord s).getLsbD n =
    if h : n < 4 then (s.port ⟨n, h⟩).attach.attached else false := by
  unfold peersWord
  rw [getLsbD_bit_append, getLsbD_bit_append, getLsbD_bit_append, getLsbD_bit_append]
  rcases n with _ | _ | _ | _ | n
  · rfl
  · rfl
  · rfl
  · rfl
  · simp

/-- Settles O3. -/
theorem resetRegisterValues : Obligations.ResetRegisterValues := by
  intro s a b
  refine ⟨assertReset s, s.released a b, rfl, rfl, fun p q => ?peers, fun p hp => ⟨?portId, fun rv hrv => ?value, ?queue⟩⟩
  case peers => exact ((getLsbD_peersWord q.val).trans (dif_pos q.isLt)).trans (attached_released a b q)
  case portId =>
    have hstraps : (s.released a b).configPort = strapPort a b := rfl
    rw [registerValue, portIdWord_eq, hstraps, strapPort_val]
  case queue => rw [port_released_attached a b hp]; rfl
  case value =>
    have hnone : (s.released a b).jobOf p = none := rfl
    have hranks : (s.released a b).ranks = 0 := rfl
    have hrights : (s.released a b).defaultRights = 0xAA := rfl
    simp only [List.mem_cons, List.not_mem_nil, or_false] at hrv
    rcases hrv with rfl | rfl | rfl | rfl | rfl | rfl | rfl | rfl | rfl | rfl | rfl | rfl | rfl | rfl | rfl | rfl | rfl |
      rfl | rfl | rfl | rfl | rfl | rfl | rfl | rfl | rfl | rfl | rfl | rfl | rfl | rfl | rfl | rfl | rfl | rfl | rfl |
      rfl | rfl <;>
      simp only [registerValue, copyStatusWord, State.shownJobState, State.shownMoved, State.jobsAhead, hnone,
        port_released_attached a b hp, lock_released, heldBits_released,
        hranks, hrights] <;> rfl

end Sys2Proof.Machine
end

section
/-! What the registers show (Tables 10-4 and 10-5): each layout as the sum of its fields at their places. -/

namespace Sys2Proof.Machine

variable {p q : PortId} {l : LockId} {s t : State}

/-! ### Fields as numbers -/

@[simp] theorem toNat_bit (b : Bool) : (bit b).toNat = b.toNat := by cases b <;> rfl

theorem toNat_portStateWord (a : AttachRecord) : (portStateWord a).toNat =
    (!a.attached).toNat * 2 ^ 15 + (detachReasonCode a.reason).toNat * 2 ^ 8 + a.pending.toNat := by
  simp only [portStateWord, toNat_append_eq_mul_add, toNat_bit, BitVec.ofNat_eq_ofNat, BitVec.toNat_ofNat]
  omega

theorem toNat_portIdWord (own config : PortId) : (portIdWord own config).toNat = config.val * 2 ^ 8 + own.val := by
  have hown := own.isLt
  have hconfig := config.isLt
  rw [portIdWord_eq, BitVec.toNat_ofNat]
  omega

theorem toNat_causesWord (b : BitVec 7) : (causesWord b).toNat = b.toNat := by
  simp only [causesWord, toNat_append_eq_mul_add, BitVec.ofNat_eq_ofNat, BitVec.toNat_ofNat]
  omega

theorem toNat_faultHeadWord (f : FaultRecord) : (faultHeadWord f).toNat =
    (faultKindCode f.kind).toNat * 2 ^ 12 + (faultSourceBit f.source).toNat * 2 ^ 11 +
      (accessTypeCode f.access).toNat * 2 ^ 9 + match f.desc with | some d => 2 ^ 4 + d.val | none => 0 := by
  simp only [faultHeadWord, toNat_append_eq_mul_add, toNat_bit, BitVec.ofNat_eq_ofNat, BitVec.toNat_ofNat]
  cases f.desc with
  | none => simp only [Option.isSome_none, Bool.toNat_false, Option.map_none, Option.getD_none]; omega
  | some d =>
    have hd := d.isLt
    simp only [Option.isSome_some, Bool.toNat_true, Option.map_some, Option.getD_some]
    omega

theorem toNat_faultLockWord (f : FaultRecord) : (faultLockWord f).toNat =
    match f.lock with | some l => 2 ^ 5 + l.val | none => 0 := by
  simp only [faultLockWord, toNat_append_eq_mul_add, toNat_bit, BitVec.ofNat_eq_ofNat, BitVec.toNat_ofNat]
  cases f.lock with
  | none => simp only [Option.isSome_none, Bool.toNat_false, Option.map_none, Option.getD_none]; omega
  | some l =>
    have hl := l.isLt
    simp only [Option.isSome_some, Bool.toNat_true, Option.map_some, Option.getD_some]
    omega

theorem toNat_faultCtrlWord {i : InterruptRecord} (h : i.faults.length ≤ 4) :
    (faultCtrlWord i).toNat = i.overrun.toNat * 2 ^ 15 + i.faults.length := by
  simp only [faultCtrlWord, toNat_append_eq_mul_add, toNat_bit, BitVec.ofNat_eq_ofNat, BitVec.toNat_ofNat]
  omega

theorem toInt_stepWord (b : BitVec 8) : (stepWord b).toInt = b.toInt := BitVec.toInt_signExtend_of_le (by omega)

theorem toNat_lockResultWord (r : LockResult) : (lockResultWord r).toNat =
    (lockOutcomeCode r.outcome).toNat * 2 ^ 12 + if r.outcome = .none then 0 else r.lock.val := by
  have hl := r.lock.isLt
  simp only [lockResultWord, toNat_append_eq_mul_add, BitVec.ofNat_eq_ofNat, BitVec.toNat_ofNat]
  split <;> omega

theorem toNat_waitStateFields (code : BitVec 3) (k : WaitKind) (l : LockId) : (waitStateFields code k l).toNat =
    code.toNat * 2 ^ 13 + (waitKindBit k).toNat * 2 ^ 8 + l.val := by
  have hl := l.isLt
  simp only [waitStateFields, toNat_append_eq_mul_add, BitVec.ofNat_eq_ofNat, BitVec.toNat_ofNat]
  omega

theorem toNat_waitStateWord (r : RequestRecord) : (waitStateWord r).toNat = match r with
    | .idle => 0
    | .waiting l k => 1 * 2 ^ 13 + (waitKindBit k).toNat * 2 ^ 8 + l.val
    | .granted l k => 2 * 2 ^ 13 + (waitKindBit k).toNat * 2 ^ 8 + l.val
    | .timedOut l k => 3 * 2 ^ 13 + (waitKindBit k).toNat * 2 ^ 8 + l.val
    | .cancelled l k => 4 * 2 ^ 13 + (waitKindBit k).toNat * 2 ^ 8 + l.val := by
  cases r with
  | idle => rfl
  | waiting l k | granted l k | timedOut l k | cancelled l k => exact toNat_waitStateFields _ k l

/-! ### Sets of locks -/

/-- A set made of single locks holds exactly those locks. -/
theorem getLsbD_foldl_locks (ls : List LockId) (l : LockId) : ∀ b : BitVec 32,
    (ls.foldl (fun b l => b ||| ((1 : BitVec 32) <<< l.val)) b).getLsbD l.val = (b.getLsbD l.val || decide (l ∈ ls)) := by
  induction ls with
  | nil => simp
  | cons m ms ih =>
    intro b
    have hbit : ((1 : BitVec 32) <<< m.val).getLsbD l.val = decide (l = m) := by
      rw [BitVec.getLsbD_shiftLeft, BitVec.ofNat_eq_ofNat, BitVec.getLsbD_one]
      have hl := l.isLt
      by_cases h : l = m
      · subst h; simp
      · have hne : l.val ≠ m.val := fun he => h (Fin.ext he)
        simp only [h, decide_false]
        by_cases hlt : l.val < m.val
        · simp [hlt]
        · have hsub : ¬ l.val - m.val = 0 := by omega
          simp [hsub]
    rw [List.foldl_cons, ih, BitVec.getLsbD_or, hbit, Bool.or_assoc, ← Bool.decide_or]
    simp only [List.mem_cons]

theorem getLsbD_heldBits : (s.heldBits p).getLsbD l.val = decide ((s.lock l).state = .held p) := by
  rw [State.heldBits, getLsbD_foldl_locks]
  simp [mem_heldLocks]

/-- A lock stands in the low or in the high register of its set. -/
theorem getLsbD_lowHigh (b : BitVec 32) (l : LockId) :
    (if l.val < 16 then (lowLocks b).getLsbD l.val else (highLocks b).getLsbD (l.val - 16)) = b.getLsbD l.val := by
  have hl := l.isLt
  split
  next h => rw [lowLocks, BitVec.getLsbD_extractLsb', Nat.zero_add]; simp [h]
  next h =>
    have hsum : 16 + (l.val - 16) = l.val := by omega
    have hlt : l.val - 16 < 16 := by omega
    rw [highLocks, BitVec.getLsbD_extractLsb', hsum]
    simp [hlt]

/-! ### The selected lock -/

theorem toNat_lockViewWord {k : LockRecord} (h : k.waiters.length ≤ 4) : (lockViewWord k).toNat =
    (match k.state with | .free => 0 | .held h => 2 ^ 14 + h.val * 2 ^ 12 | .orphaned => 2 * 2 ^ 14) +
      k.waiters.length * 2 ^ 8 + (match k.lease with | .running n => n.toNat | _ => 0) := by
  have hlease : k.lease.remaining.toNat = match k.lease with | .running n => n.toNat | _ => 0 := by
    cases k.lease <;> rfl
  simp only [lockViewWord, toNat_append_eq_mul_add, BitVec.ofNat_eq_ofNat, BitVec.toNat_ofNat, hlease]
  cases k.state with
  | free => simp only [lockStateCode, holderField, BitVec.ofNat_eq_ofNat, BitVec.toNat_ofNat]; omega
  | held h =>
    have hh := h.isLt
    simp only [lockStateCode, holderField, BitVec.ofNat_eq_ofNat, BitVec.toNat_ofNat]
    omega
  | orphaned => simp only [lockStateCode, holderField, BitVec.ofNat_eq_ofNat, BitVec.toNat_ofNat]; omega

theorem toNat_waiterNibble (w : Option Waiter) : (waiterNibble w).toNat =
    match w with | some w => 8 + 4 * (waitKindBit w.kind).toNat + w.port.val | none => 0 := by
  cases w with
  | none => rfl
  | some w =>
    have hw := w.port.isLt
    simp only [waiterNibble, toNat_append_eq_mul_add, BitVec.ofNat_eq_ofNat, BitVec.toNat_ofNat]
    omega

theorem toNat_lockWaitersWord (k : LockRecord) : (lockWaitersWord k).toNat =
    ((List.range 4).map fun i => 16 ^ i * (waiterNibble k.waiters[i]?).toNat).sum := by
  have hrange : List.range 4 = [0, 1, 2, 3] := rfl
  simp only [lockWaitersWord, toNat_append_eq_mul_add, hrange, List.map_cons, List.map_nil, List.sum_cons, List.sum_nil]
  omega

theorem toNat_lockCfgWord (k : LockRecord) : (lockCfgWord k).toNat =
    (match k.policy with | .arrival => 0 | .rank => 2 ^ 15) + k.leasePeriod.toNat := by
  simp only [lockCfgWord, toNat_append_eq_mul_add, toNat_bit, BitVec.ofNat_eq_ofNat, BitVec.toNat_ofNat]
  cases k.policy <;> simp

/-! ### Descriptors, messages and copies -/

theorem toNat_descAttrWord (d : Descriptor) : (descAttrWord d).toNat =
    d.enabled.toNat * 2 ^ 15 + d.sizeCode.toNat * 2 ^ 8 + d.guardPresent.toNat * 2 ^ 7 + d.scopeAll.toNat * 2 ^ 6 +
      d.policyClaim.toNat * 2 ^ 5 + d.guardLock.toNat := by
  simp only [descAttrWord, toNat_append_eq_mul_add, toNat_bit, BitVec.ofNat_eq_ofNat, BitVec.toNat_ofNat]
  omega

theorem toNat_byteWord (b : BitVec 8) : (byteWord b).toNat = b.toNat := by
  simp only [byteWord, toNat_append_eq_mul_add, BitVec.ofNat_eq_ofNat, BitVec.toNat_ofNat]
  omega

theorem toNat_sendResultWord {m : MessagePortRecord} (h : m.staging.length ≤ 6) : (sendResultWord m).toNat =
    (sendOutcomeCode m.outcome).toNat * 2 ^ 14 + m.dest.val * 2 ^ 8 + m.staging.length := by
  have hd := m.dest.isLt
  simp only [sendResultWord, toNat_append_eq_mul_add, BitVec.ofNat_eq_ofNat, BitVec.toNat_ofNat]
  omega

/-- Every message occupies a word at least. -/
theorem length_le_wordsUsed (ms : List Message) : ms.length ≤ wordsUsed ms := by
  induction ms with
  | nil => exact Nat.zero_le _
  | cons m ms ih =>
    simp only [wordsUsed, List.map_cons, List.sum_cons, List.length_cons, wordsFor] at ih ⊢
    omega

theorem toNat_inCtrlWord {m : MessagePortRecord} (hlist : m.holdList.length ≤ 3) (hwords : wordsUsed m.queue ≤ 32) :
    (inCtrlWord m).toNat = m.holdList.length * 2 ^ 14 + m.queue.length * 2 ^ 8 + wordsUsed m.queue := by
  have hqueue := length_le_wordsUsed m.queue
  simp only [inCtrlWord, toNat_append_eq_mul_add, BitVec.ofNat_eq_ofNat, BitVec.toNat_ofNat]
  omega

theorem toNat_copyNoticeWord (c : CopyPortRecord) : (copyNoticeWord c).toNat =
    c.noticeFlag.toNat * 2 ^ 15 + c.notice.port.val * 2 ^ 8 + c.notice.tag.toNat := by
  have hp := c.notice.port.isLt
  simp only [copyNoticeWord, toNat_append_eq_mul_add, toNat_bit, BitVec.ofNat_eq_ofNat, BitVec.toNat_ofNat]
  omega

/-- COPY_STATUS of a port whose job state shows as `st` with `n` jobs ahead. -/
theorem toNat_copyStatusWord {st : JobState} {n : Nat} (hst : s.shownJobState p = st) (hn : s.jobsAhead p = n) (h : n ≤ 3) :
    (copyStatusWord s p).toNat = (jobStateCode st).toNat * 2 ^ 13 + (jobFaultCode (s.port p).copy.fault).toNat * 2 ^ 11 +
      (submissionCode (s.port p).copy.submission).toNat * 2 ^ 8 +
      (noticeOutcomeCode (s.port p).copy.noticeOutcome).toNat * 2 ^ 4 + n := by
  simp only [copyStatusWord, hst, hn, toNat_append_eq_mul_add, BitVec.ofNat_eq_ofNat, BitVec.toNat_ofNat]
  omega

theorem jobOf_listed {us vs : List Job} {j : Job} (hjobs : s.jobs = us ++ j :: vs) (hus : ∀ x ∈ us, x.requester ≠ p)
    (hj : j.requester = p) : s.jobOf p = some j ∧ s.jobsAhead p = us.length := by
  have hjob : s.jobOf p = some j := by
    rw [State.jobOf, hjobs, List.find?_append, List.find?_eq_none.mpr (by simpa using hus)]
    simp [hj]
  refine ⟨hjob, ?_⟩
  have hnone : us.findIdx (fun x => decide (x.requester = p)) = us.length :=
    List.findIdx_eq_length_of_false fun x hx => decide_eq_false (hus x hx)
  simp only [State.jobsAhead, hjob]
  rw [hjobs, List.findIdx_append, hnone, if_neg (Nat.lt_irrefl _), List.findIdx_cons]
  simp [hj]

theorem toNat_noticeHead (final : JobState) (fk : JobFault) : (noticeHead final fk).toNat =
    (jobStateCode final).toNat * 2 ^ 13 + (jobFaultCode fk).toNat * 2 ^ 11 := by
  simp only [noticeHead, toNat_append_eq_mul_add, BitVec.ofNat_eq_ofNat, BitVec.toNat_ofNat]
  omega

theorem codesOfTable : CodesOfTable := ⟨rfl, rfl, rfl, rfl, rfl, rfl, rfl, rfl, rfl, rfl, rfl, rfl⟩

/-! ### Every register -/

theorem shownFaults_none (h : (s.port p).intr.faults = []) : (registerValue s p .faultHead).toNat = 0 ∧
    (registerValue s p .faultAddr).toNat = 0 ∧ (registerValue s p .faultLock).toNat = 0 := by
  simp [registerValue, h]

theorem shownFaults_front {f : FaultRecord} {fs : List FaultRecord} (h : (s.port p).intr.faults = f :: fs) :
    registerValue s p .faultHead = faultHeadWord f ∧ registerValue s p .faultAddr = f.address ∧
      registerValue s p .faultLock = faultLockWord f := by
  simp [registerValue, h]

/-- A small number in a register. -/
theorem toNat_ofNat_word {n : Nat} (h : n < 2 ^ 16) : (BitVec.ofNat 16 n).toNat = n := by
  rw [BitVec.toNat_ofNat, Nat.mod_eq_of_lt h]

/-- Settles O2, register by register in the order of the statement. -/
theorem registerValues : Obligations.RegisterValues := by
  refine ⟨codesOfTable, fun s p => ⟨toNat_portIdWord p s.configPort, toNat_portStateWord _, fun n _ => getLsbD_peersWord n,
    toNat_causesWord _, toNat_causesWord _, fun h => shownFaults_none h, fun f fs h => ?faults, fun h => toNat_faultCtrlWord h,
    rfl, rfl, toInt_stepWord _, ?lockSel, toNat_lockResultWord _, toNat_waitStateWord _, fun l => ⟨?held, getLsbD_lowHigh _ l⟩,
    fun h => ⟨toNat_lockViewWord h, ?waiters⟩, toNat_lockCfgWord _, ?descSel, rfl, toNat_descAttrWord _, toNat_byteWord _,
    fun h => toNat_sendResultWord h, fun hlist hwords => toNat_inCtrlWord hlist hwords, rfl, rfl, rfl, toNat_copyNoticeWord _,
    ⟨fun h => ?noJob, fun us j vs hjobs hus hj hlen => ?job⟩, rfl, ?holdLimit, rfl, ?orphan, toNat_byteWord _,
    toNat_byteWord _⟩, fun j n final fk => ⟨rfl, toNat_noticeHead final fk⟩⟩
  case faults =>
    obtain ⟨hhead, haddr, hlock⟩ := shownFaults_front h
    exact ⟨(congrArg BitVec.toNat hhead).trans (toNat_faultHeadWord f), haddr,
      (congrArg BitVec.toNat hlock).trans (toNat_faultLockWord f)⟩
  case lockSel => exact toNat_ofNat_word (by have := (s.port p).lock.sel.isLt; omega)
  case held => exact (getLsbD_lowHigh _ l).trans getLsbD_heldBits
  case waiters =>
    exact (toNat_lockWaitersWord _).trans
      (congrArg List.sum (List.map_congr_left fun i _ => congrArg (16 ^ i * ·) (toNat_waiterNibble _)))
  case descSel => exact toNat_ofNat_word (by have := (s.port p).region.sel.isLt; omega)
  case noJob =>
    have hnone : s.jobOf p = none := jobOf_eq_none_iff.mpr h
    have hstate : s.shownJobState p = (s.port p).copy.jobState := by simp only [State.shownJobState, hnone]
    have hahead : s.jobsAhead p = 0 := by simp only [State.jobsAhead, hnone]
    refine ⟨toNat_copyStatusWord hstate hahead (Nat.zero_le _), fun hmoved => ?_⟩
    have hshown : s.shownMoved p = (s.port p).copy.moved := by simp only [State.shownMoved, hnone]
    exact (congrArg (fun n => (BitVec.ofNat 16 n).toNat) hshown).trans (toNat_ofNat_word (by omega))
  case job =>
    obtain ⟨hjob, hahead⟩ := jobOf_listed hjobs hus hj
    have hstate : s.shownJobState p = j.state := by simp only [State.shownJobState, hjob]
    refine ⟨toNat_copyStatusWord hstate hahead hlen, fun hmoved => ?_⟩
    have hshown : s.shownMoved p = j.moved := by simp only [State.shownMoved, hjob]
    exact (congrArg (fun n => (BitVec.ofNat 16 n).toNat) hshown).trans (toNat_ofNat_word (by omega))
  case holdLimit =>
    have hlt := s.holdLimit.isLt
    simp only [registerValue, BitVec.toNat_setWidth]
    omega
  case orphan =>
    simp only [registerValue]
    cases s.orphan <;> rfl

end Sys2Proof.Machine
end

section
/-! What the events leave of the lock table, the message unit and the open cycles. `Same` holds of the events that change
none of the three but for the cycle of their own port, `NoLock` of the events of the message unit, which leave the lock
table; `CyclesOk` is the part that both invariants have in common. -/

namespace Sys2Proof.Machine

variable {p q : PortId} {l : LockId} {s t u : State} {own : Option PortId} {r r' r'' : PortRecord} {w : Word}

/-! ### Open cycles -/

/-- A port that has neither a held access nor a store request. -/
def PortRecord.Free (r : PortRecord) : Prop := r.held = none ∧ r.engine.request = none

/-- The bus phase of a held access and of a store request, and that a detached port has neither. -/
structure PortRecord.CycleOk (r : PortRecord) : Prop where
  heldPhase : r.held.isSome = true → r.bus.phase = .claim
  requestPhase : r.engine.request.isSome = true → r.bus.phase = .store
  detached : r.attach.attached = false → r.engine.request = none ∧ r.held = none

theorem PortRecord.Free.cycleOk (h : r.Free) : r.CycleOk where
  heldPhase hh := by simp [h.1] at hh
  requestPhase hr := by simp [h.2] at hr
  detached _ := ⟨h.2, h.1⟩

/-- Neither is there behind any other phase. -/
theorem PortRecord.CycleOk.free (h : r.CycleOk) (hc : r.bus.phase ≠ .claim) (hs : r.bus.phase ≠ .store) : r.Free :=
  ⟨Option.not_isSome_iff_eq_none.mp fun hh => hc (h.heldPhase hh),
    Option.not_isSome_iff_eq_none.mp fun hr => hs (h.requestPhase hr)⟩

theorem PortRecord.CycleOk.request_none (h : r.CycleOk) (hh : r.held.isSome = true) : r.engine.request = none :=
  Option.not_isSome_iff_eq_none.mp fun hr => by simpa [h.heldPhase hh] using h.requestPhase hr

theorem PortRecord.CycleOk.congr (h : r.CycleOk) (hh : r'.held = r.held) (hr : r'.engine.request = r.engine.request)
    (ha : r'.attach.attached = r.attach.attached) (hb : r'.bus.phase = r.bus.phase) : r'.CycleOk where
  heldPhase := by rw [hh, hb]; exact h.heldPhase
  requestPhase := by rw [hr, hb]; exact h.requestPhase
  detached := by rw [ha, hh, hr]; exact h.detached

/-- The open cycles of all ports; the port `own`, whose window runs the event, has none behind it. -/
def CyclesOk (own : Option PortId) (s : State) : Prop :=
  ∀ q, (s.port q).CycleOk ∧ (own = some q → (s.port q).Free)

theorem CyclesOk.weaken (h : CyclesOk own s) : CyclesOk none s := fun q => ⟨(h q).1, nofun⟩

theorem CyclesOk.setPort (h : CyclesOk own s) (hr : r.CycleOk) (hf : own = some p → r.Free) :
    CyclesOk own (setPort p r s) := by
  intro q
  by_cases hq : q = p
  · subst hq; rw [port_setPort_self]; exact ⟨hr, hf⟩
  · rw [port_setPort_ne _ _ _ _ hq]; exact h q

theorem CyclesOk.setPort_free (h : CyclesOk own s) (hr : r.Free) : CyclesOk own (Machine.setPort p r s) :=
  h.setPort hr.cycleOk fun _ => hr

/-! ### Records and locks left as they are -/

/-- The lock table's part of a port's record is as it was. -/
structure PortNoLock (r r' : PortRecord) : Prop where
  request : r'.lock.request = r.lock.request
  held : r'.held = r.held
  storeRequest : r'.engine.request = r.engine.request
  attached : r'.attach.attached = r.attach.attached
  pending : r'.attach.pending = r.attach.pending
  withdrawn : r'.attach.withdrawn = r.attach.withdrawn

/-- With it the message unit's part, but for the outcome of the last send and the marker of the front message. -/
structure PortSame (r r' : PortRecord) : Prop extends PortNoLock r r' where
  messagesDown : r'.attach.messagesDown = r.attach.messagesDown
  staging : r'.msg.staging = r.msg.staging
  queue : r'.msg.queue = r.msg.queue
  holdList : r'.msg.holdList = r.msg.holdList

theorem PortNoLock.refl (r : PortRecord) : PortNoLock r r := ⟨rfl, rfl, rfl, rfl, rfl, rfl⟩

theorem PortNoLock.trans (h : PortNoLock r r') (h' : PortNoLock r' r'') : PortNoLock r r'' :=
  ⟨h'.request.trans h.request, h'.held.trans h.held, h'.storeRequest.trans h.storeRequest, h'.attached.trans h.attached,
    h'.pending.trans h.pending, h'.withdrawn.trans h.withdrawn⟩

theorem PortSame.refl (r : PortRecord) : PortSame r r := ⟨.refl r, rfl, rfl, rfl, rfl⟩

theorem PortSame.trans (h : PortSame r r') (h' : PortSame r' r'') : PortSame r r'' :=
  ⟨h.toPortNoLock.trans h'.toPortNoLock, h'.messagesDown.trans h.messagesDown, h'.staging.trans h.staging,
    h'.queue.trans h.queue, h'.holdList.trans h.holdList⟩

/-- The record of a lock is as it was, but for its lease and its lease period. -/
structure LockSame (k k' : LockRecord) : Prop where
  state : k'.state = k.state
  policy : k'.policy = k.policy
  waiters : k'.waiters = k.waiters

theorem LockSame.refl (k : LockRecord) : LockSame k k := ⟨rfl, rfl, rfl⟩

theorem LockSame.trans {k k' k'' : LockRecord} (h : LockSame k k') (h' : LockSame k' k'') : LockSame k k'' :=
  ⟨h'.state.trans h.state, h'.policy.trans h.policy, h'.waiters.trans h.waiters⟩

/-- The lock table is as it was, and no cycle ends but that of `own` and held sends. -/
structure NoLock (own : Option PortId) (s t : State) : Prop where
  nrst : t.nrst = s.nrst
  lock : ∀ l, LockSame (s.lock l) (t.lock l)
  port : ∀ q, PortNoLock (s.port q) (t.port q)
  phase : ∀ q, (t.port q).bus.phase = (s.port q).bus.phase ∨ own = some q ∨ ∃ d, (s.port q).bus.phase = .send d

/-- The lock table and the message unit are as they were, and no cycle ends but that of `own`. -/
structure Same (own : Option PortId) (s t : State) : Prop where
  nrst : t.nrst = s.nrst
  lock : ∀ l, LockSame (s.lock l) (t.lock l)
  port : ∀ q, PortSame (s.port q) (t.port q)
  phase : ∀ q, (t.port q).bus.phase = (s.port q).bus.phase ∨ own = some q ∧ (t.port q).bus.phase = .idle

theorem NoLock.refl (s : State) : NoLock own s s := ⟨rfl, fun _ => .refl _, fun _ => .refl _, fun _ => .inl rfl⟩

theorem NoLock.trans (h : NoLock own s t) (h' : NoLock own t u) : NoLock own s u where
  nrst := h'.nrst.trans h.nrst
  lock l := (h.lock l).trans (h'.lock l)
  port q := (h.port q).trans (h'.port q)
  phase q := by
    rcases h.phase q with hs | hs
    · rw [← hs]; exact h'.phase q
    · exact .inr hs

theorem Same.refl (s : State) : Same own s s := ⟨rfl, fun _ => .refl _, fun _ => .refl _, fun _ => .inl rfl⟩

theorem Same.trans (h : Same own s t) (h' : Same own t u) : Same own s u where
  nrst := h'.nrst.trans h.nrst
  lock l := (h.lock l).trans (h'.lock l)
  port q := (h.port q).trans (h'.port q)
  phase q := by
    rcases h'.phase q with hs | hs
    · rw [hs]; exact h.phase q
    · exact .inr hs

theorem Same.noLock (h : Same own s t) : NoLock own s t where
  nrst := h.nrst
  lock := h.lock
  port q := (h.port q).toPortNoLock
  phase q := (h.phase q).imp_right fun hq => .inl hq.1

theorem NoLock.cyclesOk (h : NoLock own s t) (hs : CyclesOk own s) : CyclesOk own t := by
  intro q
  obtain ⟨hok, hfree⟩ := hs q
  have hport := h.port q
  have hmove : (s.port q).Free → (t.port q).Free := fun hf => ⟨hport.held.trans hf.1, hport.storeRequest.trans hf.2⟩
  refine ⟨?_, fun ho => hmove (hfree ho)⟩
  rcases h.phase q with hs | ho | ⟨d, hd⟩
  · exact hok.congr hport.held hport.storeRequest hport.attached hs
  · exact (hmove (hfree ho)).cycleOk
  · exact (hmove (hok.free (by simp [hd]) (by simp [hd]))).cycleOk

/-! ### Changes of one record -/

theorem noLock_setPort (h : PortNoLock (s.port p) r)
    (hph : r.bus.phase = (s.port p).bus.phase ∨ own = some p ∨ ∃ d, (s.port p).bus.phase = .send d) :
    NoLock own s (setPort p r s) where
  nrst := rfl
  lock _ := .refl _
  port q := by
    by_cases hq : q = p
    · subst hq; rwa [port_setPort_self]
    · rw [port_setPort_ne _ _ _ _ hq]; exact .refl _
  phase q := by
    by_cases hq : q = p
    · subst hq; rwa [port_setPort_self]
    · rw [port_setPort_ne _ _ _ _ hq]; exact .inl rfl

theorem same_setPort (h : PortSame (s.port p) r)
    (hph : r.bus.phase = (s.port p).bus.phase ∨ own = some p ∧ r.bus.phase = .idle) : Same own s (setPort p r s) where
  nrst := rfl
  lock _ := .refl _
  port q := by
    by_cases hq : q = p
    · subst hq; rwa [port_setPort_self]
    · rw [port_setPort_ne _ _ _ _ hq]; exact .refl _
  phase q := by
    by_cases hq : q = p
    · subst hq; rwa [port_setPort_self]
    · rw [port_setPort_ne _ _ _ _ hq]; exact .inl rfl

theorem same_of_eq (hp : t.ports = s.ports) (hl : t.locks = s.locks) (hn : t.nrst = s.nrst) : Same own s t where
  nrst := hn
  lock l := by rw [State.lock, State.lock, hl]; exact .refl _
  port q := by rw [State.port, State.port, hp]; exact .refl _
  phase q := by rw [State.port, State.port, hp]; exact .inl rfl

theorem noLock_of_eq (hp : t.ports = s.ports) (hl : t.locks = s.locks) (hn : t.nrst = s.nrst) : NoLock own s t :=
  (same_of_eq hp hl hn).noLock

theorem same_setLock {k : LockRecord} (h : LockSame (s.lock l) k) : Same own s (setLock l k s) where
  nrst := rfl
  lock m := by
    by_cases hm : m = l
    · subst hm; rwa [lock_setLock_self]
    · rw [lock_setLock_ne _ _ _ _ hm]; exact .refl _
  port _ := .refl _
  phase _ := .inl rfl

theorem same_modLock {f : LockRecord → LockRecord} (h : LockSame (s.lock l) (f (s.lock l))) : Same own s (modLock l f s) :=
  same_setLock h

theorem same_modEngine {f : Engine → Engine} (hf : (f (s.port p).engine).request = (s.port p).engine.request) :
    Same own s (modEngine p f s) := same_setPort ⟨⟨rfl, rfl, hf, rfl, rfl, rfl⟩, rfl, rfl, rfl, rfl⟩ (.inl rfl)
theorem same_modLockPort {f : LockPortRecord → LockPortRecord}
    (hf : (f (s.port p).lock).request = (s.port p).lock.request) : Same own s (modLockPort p f s) :=
  same_setPort ⟨⟨hf, rfl, rfl, rfl, rfl, rfl⟩, rfl, rfl, rfl, rfl⟩ (.inl rfl)
theorem same_modRegion (f : RegionPortRecord → RegionPortRecord) : Same own s (modRegion p f s) :=
  same_setPort ⟨⟨rfl, rfl, rfl, rfl, rfl, rfl⟩, rfl, rfl, rfl, rfl⟩ (.inl rfl)
theorem same_modCopy (f : CopyPortRecord → CopyPortRecord) : Same own s (modCopy p f s) :=
  same_setPort ⟨⟨rfl, rfl, rfl, rfl, rfl, rfl⟩, rfl, rfl, rfl, rfl⟩ (.inl rfl)
theorem same_modIntr (f : InterruptRecord → InterruptRecord) : Same own s (modIntr p f s) :=
  same_setPort ⟨⟨rfl, rfl, rfl, rfl, rfl, rfl⟩, rfl, rfl, rfl, rfl⟩ (.inl rfl)
theorem same_modMsg {f : MessagePortRecord → MessagePortRecord} (hs : (f (s.port p).msg).staging = (s.port p).msg.staging)
    (hq : (f (s.port p).msg).queue = (s.port p).msg.queue) (hl : (f (s.port p).msg).holdList = (s.port p).msg.holdList) :
    Same own s (modMsg p f s) := same_setPort ⟨⟨rfl, rfl, rfl, rfl, rfl, rfl⟩, rfl, hs, hq, hl⟩ (.inl rfl)
theorem same_modBus {f : Bus → Bus} (hf : (f (s.port p).bus).phase = (s.port p).bus.phase) : Same own s (modBus p f s) :=
  same_setPort ⟨⟨rfl, rfl, rfl, rfl, rfl, rfl⟩, rfl, rfl, rfl, rfl⟩ (.inl hf)
theorem noLock_modMsg (f : MessagePortRecord → MessagePortRecord) : NoLock own s (modMsg p f s) :=
  noLock_setPort ⟨rfl, rfl, rfl, rfl, rfl, rfl⟩ (.inl rfl)

theorem same_begin : Same (some p) s (modBus p (fun _ => Bus.begin) s) :=
  same_setPort ⟨⟨rfl, rfl, rfl, rfl, rfl, rfl⟩, rfl, rfl, rfl, rfl⟩ (.inr ⟨rfl, rfl⟩)

theorem same_completeCycle (data : Option Word) (err : Bool) : Same (some p) s (completeCycle p data err s) :=
  same_setPort ⟨⟨rfl, rfl, rfl, rfl, rfl, rfl⟩, rfl, rfl, rfl, rfl⟩ (.inr ⟨rfl, phase_complete _ _ _⟩)

theorem same_done (data : Option Word) : Same (some p) s (done p data s) := same_completeCycle data false

theorem noLock_done (data : Option Word) : NoLock (some p) s (done p data s) := (same_done data).noLock

theorem same_setCause (c : Cause) : Same own s (setCause p c s) := same_modIntr _

theorem same_offerFault (f : FaultRecord) : Same own s (offerFault p f s) := (same_modIntr _).trans (same_setCause _)

theorem same_refuseCycle (k : FaultKind) (c : BusCycle) (d : Option DescId) (m : Option LockId) :
    Same (some p) s (refuseCycle p k c d m s) := (same_offerFault _).trans (same_completeCycle _ _)

theorem same_badValue (x : Reg) (w : Word) : Same (some p) s (badValue p x w s) := same_refuseCycle _ _ _ _

theorem same_configWrite {x : Reg} {body : State → State} (h : Same (some p) s (body s)) :
    Same (some p) s (configWrite p x w body s) := by
  unfold configWrite
  split
  · exact same_refuseCycle _ _ _ _
  · exact h

theorem same_peerChange : Same own s (peerChange p s) where
  nrst := by rw [peerChange_ports]
  lock l := by rw [peerChange_ports]; exact .refl _
  port q := by
    rw [port_peerChange]
    split
    · exact ⟨⟨rfl, rfl, rfl, rfl, rfl, rfl⟩, rfl, rfl, rfl, rfl⟩
    · exact .refl _
  phase q := by
    rw [port_peerChange]
    split <;> exact .inl rfl

/-! ### The events that touch neither the lock table nor the message unit -/

theorem same_answerLock (o : LockOutcome) : Same (some p) s (answerLock p o l s) :=
  (same_modLockPort rfl).trans (same_done none)

theorem same_lockRenew : Same (some p) s (lockRenew p l s) := by
  unfold lockRenew
  split
  · split
    · exact same_answerLock _
    · exact (same_modLock ⟨rfl, rfl, rfl⟩).trans (same_answerLock _)
  · exact same_answerLock _

theorem same_writeLockSel : Same (some p) s (writeLockSel p w s) := by
  unfold writeLockSel
  split
  · exact same_badValue _ _
  · exact (same_modLockPort rfl).trans (same_done none)

/-- A change of fields that belong to no port and to no lock, and the end of the cycle. -/
theorem same_doneWith (hp : t.ports = s.ports) (hl : t.locks = s.locks) (hn : t.nrst = s.nrst) :
    Same (some p) s (done p none t) := (same_of_eq hp hl hn).trans (same_done none)

theorem same_writeTick : Same (some p) s (writeTick p w s) := by
  refine same_configWrite ?_
  split
  · exact same_doneWith rfl rfl rfl
  · exact same_badValue _ _

theorem same_writeHoldLimit : Same (some p) s (writeHoldLimit p w s) := by
  refine same_configWrite ?_
  split
  · exact same_doneWith rfl rfl rfl
  · exact same_badValue _ _

theorem same_writeDefaultRights : Same (some p) s (writeDefaultRights p w s) := by
  refine same_configWrite ?_
  split
  · exact same_doneWith rfl rfl rfl
  · exact same_badValue _ _

theorem same_writeDescSel : Same (some p) s (writeDescSel p w s) := by
  unfold writeDescSel
  split
  · exact same_refuseCycle _ _ _ _
  · exact (same_modRegion _).trans (same_done none)

theorem same_commitDescriptor : Same (some p) s (commitDescriptor p s) := by
  unfold commitDescriptor
  dsimp only
  split
  · exact same_refuseCycle _ _ _ _
  · split
    · exact same_doneWith rfl rfl rfl
    · exact same_refuseCycle _ _ _ _

theorem same_writeStep : Same (some p) s (writeStep p w s) := by
  unfold writeStep
  split
  · exact (same_modEngine rfl).trans (same_done none)
  · exact same_badValue _ _

theorem same_readInHead : Same (some p) s (readInHead p s) := by
  unfold readInHead
  split
  · exact same_done _
  · exact (same_modMsg rfl rfl rfl).trans (same_done _)

theorem same_readInData : Same (some p) s (readInData p s) := by
  unfold readInData
  split
  · exact same_done _
  · dsimp only
    split
    · exact (same_modMsg rfl rfl rfl).trans (same_done _)
    · exact (same_modMsg rfl rfl rfl).trans (same_done _)

theorem same_writeCopyCount : Same (some p) s (writeCopyCount p w s) := by
  unfold writeCopyCount
  split
  · exact (same_modCopy _).trans (same_done none)
  · exact same_badValue _ _

theorem same_answerStart (x : Submission) : Same (some p) s (answerStart p x s) :=
  (same_modCopy _).trans (same_done none)

theorem same_acceptJob : Same (some p) s (acceptJob p s) := by
  rw [acceptJob_eq]
  exact ((same_modCopy _).trans (same_done none)).trans (same_of_eq rfl rfl rfl)

theorem same_startJob : Same (some p) s (startJob p s) := by
  unfold startJob
  dsimp only
  split_ifs
  · exact same_answerStart _
  · exact same_answerStart _
  · exact same_answerStart _
  · exact same_acceptJob

/-! ### The copy engine and its notices -/

theorem same_removeJob : Same own s (removeJob p s) := by
  unfold removeJob
  split
  · exact .refl s
  · split
    · exact same_of_eq rfl rfl rfl
    · exact same_of_eq rfl rfl rfl

theorem noLock_admitMessage (m : Message) : NoLock own s (admitMessage q m s) :=
  (noLock_modMsg _).trans (same_setCause _).noLock

theorem noLock_postNotice {j : Job} {final : JobState} {fk : JobFault} : NoLock own s (postNotice j final fk s) := by
  unfold postNotice
  split
  · exact .refl s
  · split
    · exact (noLock_admitMessage _).trans (same_modCopy _).noLock
    · exact (same_modCopy _).noLock

/-- An ending changes the lock table and the open cycles not at all, and the message unit only by its notice. -/
theorem same_endJob_before {j : Job} {final : JobState} {fk : JobFault} :
    Same own s (setCause j.requester .copyEnd (modCopy j.requester
      (fun c => { c with jobState := final, fault := fk, moved := j.moved }) (removeJob j.requester s))) :=
  (same_removeJob.trans (same_modCopy _)).trans (same_setCause _)

theorem noLock_endJob {j : Job} {final : JobState} {fk : JobFault} : NoLock own s (endJob j final fk s) :=
  same_endJob_before.noLock.trans noLock_postNotice

theorem noLock_cancelJob : NoLock (some p) s (cancelJob p s) := by
  unfold cancelJob
  split
  · exact noLock_done none
  · split
    · split
      · refine NoLock.trans ?_ (noLock_done none)
        exact noLock_of_eq rfl rfl rfl
      · exact noLock_endJob.trans (noLock_done none)
    · split
      · exact noLock_done none
      · exact noLock_endJob.trans (noLock_done none)

/-! ### The events of a window, by what they touch -/

/-- The events of a window that reach the lock table or the port's own attachment. -/
inductive LockEvent (p : PortId) : (State → State) → Prop
  | take (l : LockId) : LockEvent p (lockTake p l)
  | wait (l : LockId) (n : Ticks) : LockEvent p (lockWait p l n)
  | release (l : LockId) : LockEvent p (lockRelease p l)
  | cancel (l : LockId) : LockEvent p (lockCancel p l)
  | force (l : LockId) : LockEvent p (lockForce p l)
  | lockCfg (w : Word) : LockEvent p (writeLockCfg p w)
  | request (a : HostAccess) : LockEvent p (requestStore p a)
  | leave : LockEvent p (leavePort p)
  | detach (q : PortId) : LockEvent p (detachCommand p q)

/-- The events of a window that reach the message unit. -/
inductive MessageEvent (p : PortId) : (State → State) → Prop
  | outData (w : Word) : MessageEvent p (writeOutData p w)
  | send (q : PortId) (urgent hold : Bool) (tag : BitVec 8) : MessageEvent p (sendMessage p q urgent hold tag)
  | discard : MessageEvent p (discardStaging p)
  | pop : MessageEvent p (popMessage p)
  | flush : MessageEvent p (flushMessages p)
  | copyCancel : MessageEvent p (cancelJob p)

/-- Every event of a window is one of the two kinds, or leaves the lock table and the message unit as they were. -/
theorem WindowEvent.kind {f : State → State} (h : WindowEvent p f) :
    LockEvent p f ∨ MessageEvent p f ∨ ∀ s, Same (some p) s (f s) := by
  cases h with
  | take l => exact .inl (.take l)
  | wait l n => exact .inl (.wait l n)
  | release l => exact .inl (.release l)
  | cancel l => exact .inl (.cancel l)
  | force l => exact .inl (.force l)
  | lockCfg w => exact .inl (.lockCfg w)
  | request a => exact .inl (.request a)
  | leave => exact .inl .leave
  | detach q => exact .inl (.detach q)
  | outData w => exact .inr (.inl (.outData w))
  | send q urgent hold tag => exact .inr (.inl (.send q urgent hold tag))
  | discard => exact .inr (.inl .discard)
  | pop => exact .inr (.inl .pop)
  | flush => exact .inr (.inl .flush)
  | copyCancel => exact .inr (.inl .copyCancel)
  | answer data => exact .inr (.inr fun s => same_done _)
  | refuse k c => exact .inr (.inr fun s => same_refuseCycle _ _ _ _)
  | portCmdCode w => exact .inr (.inr fun s => same_configWrite (same_badValue _ _))
  | renew l => exact .inr (.inr fun s => same_lockRenew)
  | lockSel w => exact .inr (.inr fun s => same_writeLockSel)
  | tick w => exact .inr (.inr fun s => same_writeTick)
  | holdLimit w => exact .inr (.inr fun s => same_writeHoldLimit)
  | failWord w => exact .inr (.inr fun s => same_configWrite (same_doneWith rfl rfl rfl))
  | orphan w => exact .inr (.inr fun s => same_configWrite (same_doneWith rfl rfl rfl))
  | ranks w => exact .inr (.inr fun s => same_configWrite (same_doneWith rfl rfl rfl))
  | defaultRights w => exact .inr (.inr fun s => same_writeDefaultRights)
  | descSel w => exact .inr (.inr fun s => same_writeDescSel)
  | staging g => exact .inr (.inr fun s => (same_modRegion _).trans (same_done none))
  | load => exact .inr (.inr fun s => (same_modRegion _).trans (same_done none))
  | commit => exact .inr (.inr fun s => same_commitDescriptor)
  | ptr w => exact .inr (.inr fun s => (same_modEngine rfl).trans (same_done none))
  | opnd w => exact .inr (.inr fun s => (same_modEngine rfl).trans (same_done none))
  | step w => exact .inr (.inr fun s => same_writeStep)
  | inHead => exact .inr (.inr fun s => same_readInHead)
  | inData => exact .inr (.inr fun s => same_readInData)
  | copySrc w => exact .inr (.inr fun s => (same_modCopy _).trans (same_done none))
  | copyDst w => exact .inr (.inr fun s => (same_modCopy _).trans (same_done none))
  | copyCount w => exact .inr (.inr fun s => same_writeCopyCount)
  | copyNotice w => exact .inr (.inr fun s => (same_modCopy _).trans (same_done none))
  | start => exact .inr (.inr fun s => same_startJob)
  | intCause w => exact .inr (.inr fun s => (same_modIntr _).trans (same_done none))
  | intMask w => exact .inr (.inr fun s => (same_modIntr _).trans (same_done none))
  | clearRevoked ones => exact .inr (.inr fun s => (same_modLockPort rfl).trans (same_done none))
  | faultPop => exact .inr (.inr fun s => (same_modIntr _).trans (same_done none))
  | clearOverrun => exact .inr (.inr fun s => (same_modIntr _).trans (same_done none))

/-! ### The message unit leaves the lock table -/

theorem noLock_finishSend : NoLock own s (finishSend p q s) := by
  unfold finishSend
  split
  next h => exact noLock_setPort ⟨rfl, rfl, rfl, rfl, rfl, rfl⟩ (.inr (.inr ⟨q, h⟩))
  next => exact .refl s

theorem noLock_admitHeld (e : HoldEntry) : NoLock own s (admitHeld q e s) :=
  (((noLock_admitMessage _).trans (noLock_modMsg _)).trans (noLock_modMsg _)).trans noLock_finishSend

theorem noLock_drainEntries (es : List HoldEntry) : ∀ s, NoLock own s (drainEntries q es s) := by
  induction es with
  | nil => exact fun s => noLock_modMsg _
  | cons e es ih =>
    intro s
    unfold drainEntries
    split
    · exact ((noLock_modMsg _).trans (noLock_admitHeld e)).trans (ih _)
    · exact noLock_modMsg _

theorem noLock_drain : NoLock own s (drain q s) := noLock_drainEntries _ s

theorem noLock_removeEntry : NoLock own s (removeEntry q p s) := by
  unfold removeEntry
  dsimp only
  split
  · exact noLock_modMsg _
  · split
    · exact (noLock_modMsg _).trans noLock_drain
    · exact noLock_modMsg _

theorem noLock_answerSend (o : SendOutcome) : NoLock (some p) s (answerSend p o q s) :=
  (noLock_modMsg _).trans (noLock_done none)

theorem noLock_holdSend {cls : MsgClass} {tag : BitVec 8} : NoLock (some p) s (holdSend p q cls tag s) :=
  (noLock_modMsg _).trans (noLock_setPort ⟨rfl, rfl, rfl, rfl, rfl, rfl⟩ (.inr (.inl rfl)))

theorem noLock_messageEvent {f : State → State} (h : MessageEvent p f) : NoLock (some p) s (f s) := by
  cases h with
  | outData w =>
    unfold writeOutData
    split
    · exact (noLock_modMsg _).trans (noLock_done none)
    · exact (same_refuseCycle _ _ _ _).noLock
  | send q urgent hold tag =>
    unfold sendMessage
    dsimp only
    split_ifs
    · exact noLock_answerSend _
    · exact ((noLock_admitMessage _).trans (noLock_modMsg _)).trans (noLock_answerSend _)
    · exact noLock_answerSend _
    · exact noLock_holdSend
  | discard => exact (noLock_modMsg _).trans (noLock_done none)
  | pop =>
    unfold popMessage
    split
    · exact noLock_done none
    · exact ((noLock_modMsg _).trans noLock_drain).trans (noLock_done none)
  | flush => exact ((noLock_modMsg _).trans noLock_drain).trans (noLock_done none)
  | copyCancel => exact noLock_cancelJob

theorem noLock_expireHold : NoLock own s (expireHold q p s) := by
  unfold expireHold
  split
  · exact .refl s
  · split
    · exact ((noLock_modMsg _).trans noLock_finishSend).trans noLock_removeEntry
    · exact .refl s

theorem foldl_noLock {α : Type} {f : State → α → State} (h : ∀ s a, NoLock own s (f s a)) (as : List α) :
    ∀ s, NoLock own s (as.foldl f s) := by
  induction as with
  | nil => exact .refl
  | cons a as ih => exact fun s => (h s a).trans (ih _)

theorem noLock_tearDownMessages : NoLock own s (tearDownMessages p s) := by
  have hended := foldl_noLock (own := own) (f := endSendDetached p) (fun _ _ => (noLock_modMsg _).trans noLock_finishSend)
  have hremoved := foldl_noLock (own := own) (f := fun t q => if q ≠ p then removeEntry q p t else t) (fun t q => by
    split
    · exact noLock_removeEntry
    · exact .refl t) allPorts
  exact ((((hended _ s).trans (noLock_modMsg _)).trans (hremoved _)).trans (noLock_modMsg _)).trans
    (noLock_setPort ⟨rfl, rfl, rfl, rfl, rfl, rfl⟩ (.inl rfl))

theorem noLock_faultJob {j : Job} {x : AccessType} {addr : Word} {k : FaultKind} {fk : JobFault} {d : Option DescId}
    {m : Option LockId} : NoLock own s (faultJob j x addr k fk d m s) :=
  (same_offerFault _).noLock.trans noLock_endJob

theorem noLock_sourceHalf {j : Job} {i : Nat} (h : sourceHalf j i s = .next t) : NoLock own s t := by
  have hrot : NoLock own s { s with rotation := .copyEngine } := noLock_of_eq rfl rfl rfl
  unfold sourceHalf at h
  dsimp only at h
  split at h
  · cases h; exact noLock_of_eq rfl rfl rfl
  · cases h
  · cases h; exact hrot.trans noLock_faultJob
  · cases h; exact hrot.trans noLock_faultJob

theorem noLock_afterWord {j : Job} {js : List Job} {i : Nat} : NoLock own s (afterWord j js i s) := by
  have hjobs : NoLock own s { s with jobs := j :: js } := noLock_of_eq rfl rfl rfl
  unfold afterWord
  dsimp only
  split_ifs
  · exact hjobs.trans noLock_endJob
  · exact hjobs.trans noLock_endJob
  · exact noLock_of_eq rfl rfl rfl

theorem noLock_destinationHalf {j : Job} {js : List Job} {i : Nat} (h : destinationHalf j js i w s = .next t) :
    NoLock own s t := by
  have hrot : NoLock own s { s with rotation := .copyEngine } := noLock_of_eq rfl rfl rfl
  have hput : NoLock own s (putWord (j.destinationAt i) w { s with rotation := .copyEngine }) := noLock_of_eq rfl rfl rfl
  unfold destinationHalf at h
  dsimp only at h
  split at h
  · cases h; exact hput.trans noLock_afterWord
  · cases h
  · cases h; exact hrot.trans noLock_faultJob
  · cases h; exact hrot.trans noLock_faultJob

end Sys2Proof.Machine
end

section
/-! The events of the lock table leave the message unit as it was (`NoMsg`). They end held accesses and store requests,
and with them the cycles that were open for them, but no send. -/

namespace Sys2Proof.Machine

variable {p q : PortId} {l : LockId} {s t u : State} {own : Option PortId} {r r' r'' : PortRecord}

/-! ### The relation -/

/-- The message unit's part of a port's record is as it was, with what it counts as attached. -/
structure PortNoMsg (r r' : PortRecord) : Prop where
  staging : r'.msg.staging = r.msg.staging
  queue : r'.msg.queue = r.msg.queue
  holdList : r'.msg.holdList = r.msg.holdList
  attached : r'.attach.attached = r.attach.attached
  pending : r'.attach.pending = r.attach.pending
  messagesDown : r'.attach.messagesDown = r.attach.messagesDown

theorem PortNoMsg.refl (r : PortRecord) : PortNoMsg r r := ⟨rfl, rfl, rfl, rfl, rfl, rfl⟩

theorem PortNoMsg.trans (h : PortNoMsg r r') (h' : PortNoMsg r' r'') : PortNoMsg r r'' :=
  ⟨h'.staging.trans h.staging, h'.queue.trans h.queue, h'.holdList.trans h.holdList, h'.attached.trans h.attached,
    h'.pending.trans h.pending, h'.messagesDown.trans h.messagesDown⟩

theorem PortSame.noMsg (h : PortSame r r') : PortNoMsg r r' :=
  ⟨h.staging, h.queue, h.holdList, h.attached, h.pending, h.messagesDown⟩

/-- The bus phase of a port before and after: no send begins, and none ends but at the port `own`. -/
def SendsKept (own : Option PortId) (s t : State) : Prop :=
  ∀ q d, ((t.port q).bus.phase = .send d → (s.port q).bus.phase = .send d) ∧
    ((s.port q).bus.phase = .send d → (t.port q).bus.phase = .send d ∨ own = some q)

/-- The message unit is as it was, no send begins or ends but at `own`, and the open cycles stay in order. -/
structure NoMsg (own : Option PortId) (s t : State) : Prop where
  nrst : t.nrst = s.nrst
  port : ∀ q, PortNoMsg (s.port q) (t.port q)
  cycles : CyclesOk own s → CyclesOk own t
  sends : CyclesOk own s → SendsKept own s t

theorem NoMsg.refl (s : State) : NoMsg own s s := ⟨rfl, fun _ => .refl _, id, fun _ _ _ => ⟨id, .inl⟩⟩

theorem NoMsg.trans (h : NoMsg own s t) (h' : NoMsg own t u) : NoMsg own s u where
  nrst := h'.nrst.trans h.nrst
  port q := (h.port q).trans (h'.port q)
  cycles := h'.cycles ∘ h.cycles
  sends hs q d := by
    obtain ⟨hback, hon⟩ := h.sends hs q d
    obtain ⟨hback', hon'⟩ := h'.sends (h.cycles hs) q d
    exact ⟨hback ∘ hback', fun hd => (hon hd).elim hon' .inr⟩

theorem Same.sendsKept (h : Same own s t) : SendsKept own s t := by
  intro q d
  rcases h.phase q with hq | ⟨ho, hidle⟩
  · rw [hq]; exact ⟨id, .inl⟩
  · exact ⟨fun hd => by simp [hidle] at hd, fun _ => .inr ho⟩

theorem Same.noMsg (h : Same own s t) : NoMsg own s t :=
  ⟨h.nrst, fun q => (h.port q).noMsg, h.noLock.cyclesOk, fun _ => h.sendsKept⟩

theorem noMsg_of_eq (hp : t.ports = s.ports) (hl : t.locks = s.locks) (hn : t.nrst = s.nrst) : NoMsg own s t :=
  (same_of_eq hp hl hn).noMsg

/-- A change of one port's record that leaves its message part, its phase and what stands behind the phase. -/
theorem noMsg_setPort (h : PortNoMsg (s.port p) r) (hheld : r.held = none ∨ r.held = (s.port p).held)
    (hreq : r.engine.request = none ∨ r.engine.request = (s.port p).engine.request)
    (hph : r.bus.phase = (s.port p).bus.phase) : NoMsg own s (setPort p r s) where
  nrst := rfl
  port q := by
    by_cases hq : q = p
    · subst hq; rwa [port_setPort_self]
    · rw [port_setPort_ne _ _ _ _ hq]; exact .refl _
  cycles hs := by
    obtain ⟨hok, hfree⟩ := hs p
    refine hs.setPort ⟨fun hh => ?_, fun hr => ?_, fun ha => ?_⟩ fun ho => ?_
    · rcases hheld with hn | hn
      · simp [hn] at hh
      · rw [hph]; exact hok.heldPhase (hn ▸ hh)
    · rcases hreq with hn | hn
      · simp [hn] at hr
      · rw [hph]; exact hok.requestPhase (hn ▸ hr)
    · obtain ⟨hr, hh⟩ := hok.detached (h.attached ▸ ha)
      exact ⟨hreq.elim id fun hn => hn.trans hr, hheld.elim id fun hn => hn.trans hh⟩
    · exact ⟨hheld.elim id fun hn => hn.trans (hfree ho).1, hreq.elim id fun hn => hn.trans (hfree ho).2⟩
  sends _ q d := by
    by_cases hq : q = p
    · subst hq; rw [port_setPort_self, hph]; exact ⟨id, .inl⟩
    · rw [port_setPort_ne _ _ _ _ hq]; exact ⟨id, .inl⟩

theorem noMsg_setLock (k : LockRecord) : NoMsg own s (setLock l k s) :=
  ⟨rfl, fun _ => .refl _, id, fun _ _ _ => ⟨id, .inl⟩⟩

theorem noMsg_writeRequest (x : RequestRecord) : NoMsg own s (writeRequest p x s) :=
  noMsg_setPort ⟨rfl, rfl, rfl, rfl, rfl, rfl⟩ (.inr rfl) (.inr rfl) rfl

theorem noMsg_setCause (c : Cause) : NoMsg own s (setCause p c s) := (same_setCause c).noMsg

theorem noMsg_grantLock : NoMsg own s (grantLock l p s) := noMsg_setLock _

theorem noMsg_removeWaiter : NoMsg own s (removeWaiter l p s) := noMsg_setLock _

theorem noMsg_enterWait (k : WaitKind) (n : Ticks) : NoMsg own s (enterWait l p k n s) :=
  (noMsg_setLock _).trans (noMsg_writeRequest _)

theorem noMsg_answerLock (o : LockOutcome) : NoMsg (some p) s (answerLock p o l s) := (same_answerLock o).noMsg

/-! ### The end of a held access -/

/-- The cycle of a port with neither a held access nor a request ends. -/
theorem Same.cyclesOk_of_free (h : Same (some p) s t) (hs : CyclesOk own s) (hf : (s.port p).Free) : CyclesOk own t := by
  have hsome : CyclesOk (some p) t := h.noLock.cyclesOk fun q => ⟨(hs q).1, fun hq => Option.some.inj hq ▸ hf⟩
  exact fun q => ⟨(hsome q).1, fun ho =>
    ⟨(h.port q).held.trans ((hs q).2 ho).1, (h.port q).storeRequest.trans ((hs q).2 ho).2⟩⟩

theorem noMsg_setHeld_none : NoMsg own s (setHeld p none s) :=
  noMsg_setPort ⟨rfl, rfl, rfl, rfl, rfl, rfl⟩ (.inl rfl) (.inr rfl) rfl

/-- Once a held access is taken away its port has neither it nor a store request. -/
theorem free_setHeld_none (hs : CyclesOk own s) (hh : (s.port p).held.isSome = true) :
    ((setHeld p none s).port p).Free := by
  rw [setHeld_eq, port_setPort_self]
  exact ⟨rfl, (hs p).1.request_none hh⟩

/-- A held access goes and its cycle ends; the cycle was no send. -/
theorem noMsg_endHeld (hh : (s.port p).held.isSome = true) (h : Same (some p) (setHeld p none s) t) : NoMsg own s t where
  nrst := h.nrst
  port q := ((noMsg_setHeld_none (own := own)).port q).trans (h.port q).noMsg
  cycles hs := h.cyclesOk_of_free (noMsg_setHeld_none.cycles hs) (free_setHeld_none hs hh)
  sends hs q d := by
    have hphase : ((setHeld p none s).port q).bus.phase = (s.port q).bus.phase := by
      by_cases hq : q = p
      · subst hq; rw [setHeld_eq, port_setPort_self]
      · rw [setHeld_eq, port_setPort_ne _ _ _ _ hq]
    obtain ⟨hback, hon⟩ := h.sendsKept q d
    rw [hphase] at hback hon
    refine ⟨hback, fun hd => (hon hd).imp_right fun hq => ?_⟩
    obtain rfl := Option.some.inj hq
    simp [(hs p).1.heldPhase hh] at hd

theorem same_completeAccess (a : HostAccess) (addr : Word) : Same (some p) s (completeAccess p a addr s) := by
  have hstore : Same (some p) s (a.toStore (s.port p).engine.opnd (s.word addr) addr s) := by
    cases a <;> exact same_of_eq rfl rfl rfl
  exact (hstore.trans (same_modEngine rfl)).trans (same_completeCycle _ _)

theorem same_refuseAccess (a : HostAccess) (addr : Word) (k : FaultKind) (d : Option DescId) (m : Option LockId) :
    Same (some p) s (refuseAccess p a addr k d m s) :=
  (same_offerFault _).trans (same_completeCycle _ _)

theorem same_recheckHeld {h : HeldAccess} (hh : (s.port p).held = some h) :
    Same (some p) (setHeld p none s) (recheckHeld p s) := by
  simp only [recheckHeld, hh]
  split
  · exact same_completeAccess _ _
  all_goals exact same_refuseAccess _ _ _ _ _

theorem same_endHeldExpired {h : HeldAccess} (hh : (s.port p).held = some h) :
    Same (some p) (setHeld p none s) (endHeldExpired p s) := by
  simp only [endHeldExpired, hh]
  exact same_refuseAccess _ _ _ _ _

theorem noMsg_recheckHeld : NoMsg own s (recheckHeld p s) := by
  cases hh : (s.port p).held with
  | none => rw [recheckHeld_absent p s hh]; exact .refl s
  | some h => exact noMsg_endHeld (by simp [hh]) (same_recheckHeld hh)

theorem noMsg_endHeldExpired : NoMsg own s (endHeldExpired p s) := by
  cases hh : (s.port p).held with
  | none => rw [endHeldExpired_absent hh]; exact .refl s
  | some h => exact noMsg_endHeld (by simp [hh]) (same_endHeldExpired hh)

/-! ### Handovers, expiries and the commands of the lock table -/

theorem noMsg_handover : NoMsg own s (handover l s) := by
  cases hw : (s.lock l).waiters with
  | nil => rw [handover_empty l s hw]; exact noMsg_setLock _
  | cons w ws =>
    have hgiven : NoMsg own s (s.handedTo l w ws) :=
      (noMsg_setLock _).trans (noMsg_setPort ⟨rfl, rfl, rfl, rfl, rfl, rfl⟩ (.inr rfl) (.inr rfl) rfl)
    rw [handover_handedTo hw]
    split
    · exact hgiven.trans noMsg_recheckHeld
    · exact hgiven

theorem noMsg_revoke : NoMsg own s (revoke l p s) :=
  ((same_modLockPort rfl).noMsg.trans (noMsg_setCause _)).trans noMsg_handover

theorem noMsg_expireLease : NoMsg own s (expireLease l s) := by
  unfold expireLease
  split
  · exact noMsg_revoke
  · exact .refl s

theorem noMsg_expirePatience : NoMsg own s (expirePatience l p s) := by
  unfold expirePatience
  dsimp only
  split
  · exact .refl s
  next w hw =>
    have hout : NoMsg own s (setCause p .lockOutcome (writeRequest p (.timedOut l w.kind) (removeWaiter l p s))) :=
      (noMsg_removeWaiter.trans (noMsg_writeRequest _)).trans (noMsg_setCause _)
    split_ifs
    · exact hout.trans noMsg_endHeldExpired
    · exact hout
    · exact .refl s

theorem noMsg_lockTake : NoMsg (some p) s (lockTake p l s) := by
  unfold lockTake
  split
  · exact noMsg_answerLock _
  · exact noMsg_answerLock _
  · split
    · exact noMsg_answerLock _
    · exact noMsg_grantLock.trans (noMsg_answerLock _)

theorem noMsg_lockWait {n : Ticks} : NoMsg (some p) s (lockWait p l n s) := by
  unfold lockWait
  split_ifs
  · exact noMsg_answerLock _
  · exact noMsg_answerLock _
  · exact noMsg_answerLock _
  · exact ((noMsg_grantLock.trans (noMsg_writeRequest _)).trans (noMsg_setCause _)).trans (noMsg_answerLock _)
  · exact (noMsg_enterWait _ _).trans (noMsg_answerLock _)

theorem noMsg_lockRelease : NoMsg (some p) s (lockRelease p l s) := by
  unfold lockRelease
  split
  · exact noMsg_handover.trans (noMsg_answerLock _)
  · exact noMsg_answerLock _

theorem noMsg_lockCancel : NoMsg (some p) s (lockCancel p l s) := by
  unfold lockCancel
  split
  · exact ((noMsg_removeWaiter.trans (noMsg_writeRequest _)).trans (noMsg_setCause _)).trans (noMsg_answerLock _)
  · exact noMsg_answerLock _

theorem noMsg_lockForce : NoMsg (some p) s (lockForce p l s) := by
  unfold lockForce
  split
  · exact noMsg_answerLock _
  · split
    · split
      · exact noMsg_handover.trans (noMsg_answerLock _)
      · exact noMsg_revoke.trans (noMsg_answerLock _)
    · exact noMsg_handover.trans (noMsg_answerLock _)
    · exact noMsg_answerLock _

theorem noMsg_configWrite {x : Reg} {w : Word} {body : State → State} (h : NoMsg (some p) s (body s)) :
    NoMsg (some p) s (configWrite p x w body s) := by
  unfold configWrite
  split
  · exact (same_refuseCycle _ _ _ _).noMsg
  · exact h

theorem noMsg_writeLockCfg {w : Word} : NoMsg (some p) s (writeLockCfg p w s) := by
  refine noMsg_configWrite ?_
  dsimp only
  split
  · exact (same_refuseCycle _ _ _ _).noMsg
  · exact (noMsg_setLock _).trans (same_done none).noMsg

theorem noMsg_withdraw : NoMsg own s (withdraw p s) := by
  have hattach : ∀ t : State,
      NoMsg own t (modAttach p (fun a => { a with withdrawn := true, toRelease := s.heldLocks p }) t) :=
    fun t => noMsg_setPort ⟨rfl, rfl, rfl, rfl, rfl, rfl⟩ (.inr rfl) (.inr rfl) rfl
  unfold withdraw
  refine NoMsg.trans ?_ (hattach _)
  split
  · exact noMsg_removeWaiter.trans (noMsg_writeRequest _)
  · exact .refl s

theorem noMsg_releaseHeld : NoMsg own s (releaseHeld p l s) := by
  have hattach : NoMsg own s (modAttach p (fun a => { a with toRelease := a.toRelease.filter fun m => decide (m ≠ l) }) s) :=
    noMsg_setPort ⟨rfl, rfl, rfl, rfl, rfl, rfl⟩ (.inr rfl) (.inr rfl) rfl
  unfold releaseHeld
  dsimp only
  split_ifs
  · split
    · exact hattach.trans noMsg_handover
    · exact hattach.trans (noMsg_setLock _)
  · exact hattach

/-! ### Store requests and their grants -/

/-- A store request of the port whose window runs stands behind its open cycle. -/
theorem cyclesOk_requestStore (a : HostAccess) (hs : CyclesOk (some p) s) (ha : (s.port p).attach.attached = true) :
    CyclesOk none (requestStore p a s) := by
  have hfree := (hs p).2 rfl
  have hmod : requestStore p a s = setPort p { s.port p with
      engine := { (s.port p).engine with request := some a }, bus := { (s.port p).bus with phase := .store } } s := by
    simp only [requestStore, modEngine_eq, modBus_eq, port_setPort_self, setPort_setPort]
  rw [hmod]
  exact hs.weaken.setPort ⟨fun hh => by simp [hfree.1] at hh, fun _ => rfl, fun hd => by simp [ha] at hd⟩ nofun

/-- A grant whose access ends in the same event: the cycle behind the request was no send. -/
theorem noMsg_granted {a : HostAccess} (ha : (s.port p).engine.request = some a)
    (h : NoMsg (some p) (s.granting p) t) : NoMsg none s t := by
  have hgrant : NoMsg none s (s.granting p) :=
    NoMsg.trans (t := { s with rotation := .port p }) (noMsg_of_eq rfl rfl rfl)
      (noMsg_setPort ⟨rfl, rfl, rfl, rfl, rfl, rfl⟩ (.inr rfl) (.inl rfl) rfl)
  have hphase : CyclesOk none s → (s.port p).bus.phase = .store := fun hs => (hs p).1.requestPhase (by simp [ha])
  have hown : CyclesOk none s → CyclesOk (some p) (s.granting p) := by
    refine fun hs q => ⟨(hgrant.cycles hs q).1, fun hq => ?_⟩
    obtain rfl := Option.some.inj hq
    rw [port_granting]
    refine ⟨Option.not_isSome_iff_eq_none.mp fun hh => ?_, rfl⟩
    have := (hs p).1.heldPhase hh
    simp [hphase hs] at this
  refine ⟨h.nrst.trans hgrant.nrst, fun q => (hgrant.port q).trans (h.port q), fun hs => (h.cycles (hown hs)).weaken,
    fun hs q d => ?_⟩
  obtain ⟨hback, hon⟩ := hgrant.sends hs q d
  obtain ⟨hback', hon'⟩ := h.sends (hown hs) q d
  refine ⟨hback ∘ hback', fun hd => ?_⟩
  rcases hon' ((hon hd).resolve_right nofun) with hd' | hq
  · exact .inl hd'
  · obtain rfl := Option.some.inj hq
    simp [hphase hs] at hd

theorem holdAccess_eq (a : HostAccess) (addr : Word) (d : DescId) : holdAccess p a addr d l s =
    setPort p { s.port p with
      lock := { (s.port p).lock with request := .waiting l .claim }
      held := some { access := a, address := addr, lock := l, desc := d }
      bus := { (s.port p).bus with phase := .claim } }
    (setLock l { s.lock l with
      waiters := insertWaiter (s.lock l).policy
        { port := p, kind := .claim, patience := Countdown.load s.holdLimit, rank := s.rank p } (s.lock l).waiters } s) := by
  simp only [holdAccess, enterWait, modLock_eq, writeRequest_eq, setHeld_eq, modBus_eq, port_setLock, port_setPort_self,
    setPort_setPort]

/-- A change of one port's record by an event that begins and ends no send. -/
theorem noMsg_of_port (hn : t.nrst = s.nrst) (hother : ∀ q, q ≠ p → t.port q = s.port q)
    (hport : PortNoMsg (s.port p) (t.port p)) (hcycle : (s.port p).CycleOk → (t.port p).CycleOk)
    (hsend : ∀ d, (t.port p).bus.phase ≠ .send d) (hsend' : (s.port p).CycleOk → ∀ d, (s.port p).bus.phase ≠ .send d) :
    NoMsg none s t where
  nrst := hn
  port q := by
    rcases eq_or_ne q p with rfl | hq
    · exact hport
    · rw [hother q hq]; exact .refl _
  cycles hs q := by
    rcases eq_or_ne q p with rfl | hq
    · exact ⟨hcycle (hs q).1, nofun⟩
    · rw [hother q hq]; exact hs q
  sends hs q d := by
    rcases eq_or_ne q p with rfl | hq
    · exact ⟨fun h => absurd h (hsend d), fun h => absurd h (hsend' (hs q).1 d)⟩
    · rw [hother q hq]; exact ⟨id, .inl⟩

/-- A grant whose access is held: its cycle stays open, for a claim. -/
theorem noMsg_held {a b : HostAccess} {addr : Word} {d : DescId} (ha : (s.port p).engine.request = some b) :
    NoMsg none s (holdAccess p a addr d l (s.granting p)) := by
  have hreq : (s.port p).engine.request.isSome = true := by simp [ha]
  rw [holdAccess_eq]
  refine noMsg_of_port (p := p) rfl (fun q hq => ?_) ?_ (fun h => ?_) ?_ fun h d => ?_
  · rw [port_setPort_ne _ _ _ _ hq, port_setLock, State.granting, port_setPort_ne _ _ _ _ hq]; rfl
  · rw [port_setPort_self, port_granting]; exact ⟨rfl, rfl, rfl, rfl, rfl, rfl⟩
  · rw [port_setPort_self, port_granting]
    refine ⟨fun _ => rfl, nofun, fun hd => ?_⟩
    simp [(h.detached hd).1] at hreq
  · rw [port_setPort_self]; nofun
  · rw [h.requestPhase hreq]; nofun

theorem noMsg_claim {a : HostAccess} {addr : Word} {d : DescId} (ha : (s.port p).engine.request = some a) :
    NoMsg none s (claim p a addr d l (s.granting p)) := by
  unfold claim
  split_ifs
  · exact noMsg_granted ha (same_refuseAccess _ _ _ _ _).noMsg
  · exact noMsg_granted ha (same_refuseAccess _ _ _ _ _).noMsg
  · exact noMsg_granted ha (((noMsg_grantLock.trans (noMsg_writeRequest _)).trans (noMsg_setCause _)).trans
      (same_completeAccess _ _).noMsg)
  · exact noMsg_held ha

theorem noMsg_grantNext : NoMsg none s (grantNext s) := by
  unfold grantNext
  split
  next p hp =>
    unfold grantPort
    split
    · exact .refl s
    next a ha =>
      change NoMsg none s (serveAccess p a (s.granting p))
      unfold serveAccess
      dsimp only
      split
      · exact noMsg_granted ha (same_completeAccess _ _).noMsg
      · exact noMsg_granted ha (same_refuseAccess _ _ _ _ _).noMsg
      · exact noMsg_granted ha (same_refuseAccess _ _ _ _ _).noMsg
      · exact noMsg_claim ha
      · exact noMsg_granted ha (same_refuseAccess _ _ _ _ _).noMsg
  · exact .refl s

end Sys2Proof.Machine
end

section
/-! The structure of the lock table: its wait lists, the request records and HOLD_MAX. Each change that the events make of
it is one lemma: a lock's state, an entry that joins a list, an entry that leaves one, and a tick. -/

namespace Sys2Proof.Machine

variable {p q : PortId} {l m : LockId} {s t : State} {own : Option PortId} {r r' : PortRecord} {k : LockRecord}
  {lim : Prop}

/-! ### The invariant and what leaves it alone -/

/-- The lock table without its tie to the cycles (R4, R7, R11); HOLD_MAX is kept under the condition `lim` (R13). -/
structure TableOk (lim : Prop) (s : State) : Prop where
  freeEmpty : ∀ l, (s.lock l).state = .free → (s.lock l).waiters = []
  holderApart : ∀ l h, (s.lock l).state = .held h → ∀ w ∈ (s.lock l).waiters, w.port ≠ h
  entryOnce : ∀ l, ((s.lock l).waiters.map Waiter.port).Nodup
  entryRecorded : ∀ l, ∀ w ∈ (s.lock l).waiters, (s.port w.port).lock.request = .waiting l w.kind
  recordEntered : ∀ p l k, (s.port p).lock.request = .waiting l k → ∃ w ∈ (s.lock l).waiters, w.port = p
  rankOrder : ∀ l, (s.lock l).policy = .rank → (s.lock l).waiters.Pairwise fun a b => b.rank.toNat ≤ a.rank.toNat
  holdMax : lim → HoldMaxKept s

theorem not_waiting {x : RequestRecord} (h : x.isWaiting = false) (l : LockId) (k : WaitKind) : x ≠ .waiting l k := by
  rintro rfl
  simp [RequestRecord.isWaiting] at h

theorem waiting_of_isWaiting {x : RequestRecord} (h : x.isWaiting = true) : ∃ l k, x = .waiting l k := by
  cases x with
  | waiting l k => exact ⟨l, k, rfl⟩
  | idle | granted | timedOut | cancelled => simp [RequestRecord.isWaiting] at h

/-- A waiting port has one entry, in the list its record names, of the record's kind. -/
theorem TableOk.entry (h : TableOk lim s) {x : WaitKind} (hreq : (s.port p).lock.request = .waiting l x) :
    ∃ w ∈ (s.lock l).waiters, w.port = p ∧ w.kind = x := by
  obtain ⟨w, hw, hp⟩ := h.recordEntered p l x hreq
  have hrec := h.entryRecorded l w hw
  rw [hp, hreq] at hrec
  exact ⟨w, hw, hp, by cases hrec; rfl⟩

theorem heldLocks_congr (h : ∀ l, (t.lock l).state = (s.lock l).state) : t.heldLocks p = s.heldLocks p := by
  simp only [State.heldLocks, h]

theorem holdCount_waiting (h : (s.port p).lock.request.isWaiting = true) : s.holdCount p = (s.heldLocks p).length + 1 := by
  simp [State.holdCount, h]

theorem holdCount_notWaiting (h : (s.port p).lock.request.isWaiting = false) : s.holdCount p = (s.heldLocks p).length := by
  simp [State.holdCount, h]

/-- Request records may change among those that are not WAITING. -/
theorem TableOk.congr (h : TableOk lim s) (hl : ∀ l, LockSame (s.lock l) (t.lock l))
    (hp : ∀ p, (t.port p).lock.request = (s.port p).lock.request ∨
      ((s.port p).lock.request.isWaiting = false ∧ (t.port p).lock.request.isWaiting = false)) : TableOk lim t where
  freeEmpty l := by rw [(hl l).state, (hl l).waiters]; exact h.freeEmpty l
  holderApart l := by rw [(hl l).state, (hl l).waiters]; exact h.holderApart l
  entryOnce l := by rw [(hl l).waiters]; exact h.entryOnce l
  entryRecorded l w hw := by
    rw [(hl l).waiters] at hw
    have hrec := h.entryRecorded l w hw
    rcases hp w.port with heq | ⟨hs, -⟩
    · rw [heq, hrec]
    · exact absurd hrec (not_waiting hs l w.kind)
  recordEntered p l x hx := by
    rw [(hl l).waiters]
    rcases hp p with heq | ⟨-, ht⟩
    · exact h.recordEntered p l x (heq ▸ hx)
    · exact absurd hx (not_waiting ht l x)
  rankOrder l := by rw [(hl l).policy, (hl l).waiters]; exact h.rankOrder l
  holdMax hlim p := by
    have hcount : t.holdCount p = s.holdCount p := by
      rw [State.holdCount, State.holdCount, heldLocks_congr fun l => (hl l).state]
      rcases hp p with heq | ⟨hs, ht⟩
      · rw [heq]
      · rw [hs, ht]
    rw [hcount]
    exact h.holdMax hlim p

theorem NoLock.tableOk (h : NoLock own s t) (hs : TableOk lim s) : TableOk lim t :=
  hs.congr h.lock fun p => .inl (h.port p).request

/-! ### A lock's state -/

theorem heldLocks_length_setLock_le (hne : k.state ≠ .held p) :
    ((setLock l k s).heldLocks p).length ≤ (s.heldLocks p).length := by
  refine (nodup_heldLocks.subperm fun m hm => ?_).length_le
  rw [mem_heldLocks] at hm ⊢
  by_cases hml : m = l
  · subst hml; rw [lock_setLock_self] at hm; exact absurd hm hne
  · rwa [lock_setLock_ne _ _ _ _ hml] at hm

theorem heldLocks_length_setLock_succ : ((setLock l k s).heldLocks p).length ≤ (s.heldLocks p).length + 1 := by
  refine (nodup_heldLocks.subperm (l₂ := l :: s.heldLocks p) fun m hm => ?_).length_le
  rw [mem_heldLocks] at hm
  rw [List.mem_cons, mem_heldLocks]
  by_cases hml : m = l
  · exact .inl hml
  · exact .inr (by rwa [lock_setLock_ne _ _ _ _ hml] at hm)

/-- The lock's list stays; a new holder does not stand in it and has room, and the policy changes only over an empty
list. -/
theorem TableOk.setLock (h : TableOk lim s) (hw : k.waiters = (s.lock l).waiters)
    (hpolicy : k.policy = (s.lock l).policy ∨ k.waiters = []) (hfree : k.state = .free → k.waiters = [])
    (hheld : ∀ p, k.state = .held p → (s.lock l).state = .held p ∨
      ((∀ w ∈ k.waiters, w.port ≠ p) ∧ (lim → s.holdCount p < 8))) : TableOk lim (setLock l k s) := by
  have hwaiters : ∀ m, ((Machine.setLock l k s).lock m).waiters = (s.lock m).waiters := by
    intro m
    rcases eq_or_ne m l with rfl | hm
    · rw [lock_setLock_self, hw]
    · rw [lock_setLock_ne _ _ _ _ hm]
  refine ⟨fun m hm => ?free, fun m x hm => ?apart, fun m => ?once, fun m w hmem => ?recorded, fun p m x hx => ?entered,
    fun m hm => ?rank, fun hlim p => ?max⟩
  case free =>
    rcases eq_or_ne m l with rfl | hml
    · rw [lock_setLock_self] at hm ⊢; exact hfree hm
    · rw [lock_setLock_ne _ _ _ _ hml] at hm ⊢; exact h.freeEmpty m hm
  case apart =>
    rcases eq_or_ne m l with rfl | hml
    · rw [lock_setLock_self] at hm ⊢
      rcases hheld x hm with hs | ⟨hx, -⟩
      · rw [hw]; exact h.holderApart m x hs
      · exact hx
    · rw [lock_setLock_ne _ _ _ _ hml] at hm ⊢; exact h.holderApart m x hm
  case once => rw [hwaiters]; exact h.entryOnce m
  case recorded => exact h.entryRecorded m w (hwaiters m ▸ hmem)
  case entered => rw [hwaiters]; exact h.recordEntered p m x hx
  case rank =>
    rcases eq_or_ne m l with rfl | hml
    · rw [lock_setLock_self] at hm ⊢
      rcases hpolicy with hp | hp
      · rw [hw]; exact h.rankOrder m (hp ▸ hm)
      · rw [hp]; exact List.Pairwise.nil
    · rw [lock_setLock_ne _ _ _ _ hml] at hm ⊢; exact h.rankOrder m hm
  case max =>
    have hold : s.holdCount p ≤ 8 := h.holdMax hlim p
    have hle : ((Machine.setLock l k s).heldLocks p).length ≤ (s.heldLocks p).length ∨ s.holdCount p < 8 := by
      by_cases hp : k.state = .held p
      · rcases hheld p hp with hs | ⟨-, hroom⟩
        · refine .inl ((nodup_heldLocks.subperm fun m hm => ?_).length_le)
          rw [mem_heldLocks] at hm ⊢
          rcases eq_or_ne m l with rfl | hml
          · exact hs
          · rwa [lock_setLock_ne _ _ _ _ hml] at hm
        · exact .inr (hroom hlim)
      · exact .inl (heldLocks_length_setLock_le hp)
    have hsucc := heldLocks_length_setLock_succ (s := s) (l := l) (k := k) (p := p)
    change ((Machine.setLock l k s).heldLocks p).length + (if (s.port p).lock.request.isWaiting then 1 else 0) ≤ 8
    rw [State.holdCount] at hold hle
    omega

theorem TableOk.grantLock (h : TableOk lim s) (hfree : (s.lock l).state = .free) (hroom : lim → s.holdCount p < 8) :
    TableOk lim (grantLock l p s) := by
  have hempty := h.freeEmpty l hfree
  refine h.setLock rfl (.inl rfl) (fun _ => hempty) fun q hq => .inr ⟨fun w hw => ?_, fun hlim => ?_⟩
  · rw [hempty] at hw; simp at hw
  · obtain rfl : p = q := by injection hq
    exact hroom hlim

/-! ### An entry that joins or leaves a list -/

/-- The list of a lock changes by the entry of one port, whose request record is written with it; what the port waited
for before was this lock or none. -/
theorem TableOk.setEntry (h : TableOk lim s) (hstate : k.state = (s.lock l).state) (hpolicy : k.policy = (s.lock l).policy)
    (hbefore : ∀ m x, (s.port p).lock.request = .waiting m x → m = l)
    (hothers : ∀ w : Waiter, w.port ≠ p → (w ∈ k.waiters ↔ w ∈ (s.lock l).waiters))
    (honce : (k.waiters.map Waiter.port).Nodup)
    (hrank : k.policy = .rank → k.waiters.Pairwise fun a b => b.rank.toNat ≤ a.rank.toNat)
    (hrecorded : ∀ w ∈ k.waiters, w.port = p → r.lock.request = .waiting l w.kind)
    (hentered : ∀ m x, r.lock.request = .waiting m x → m = l ∧ ∃ w ∈ k.waiters, w.port = p)
    (hfree : k.state = .free → k.waiters = []) (hheld : k.state = .held p → ∀ w ∈ k.waiters, w.port ≠ p)
    (hmax : lim → (s.heldLocks p).length + (if r.lock.request.isWaiting then 1 else 0) ≤ 8) :
    TableOk lim (setPort p r (Machine.setLock l k s)) := by
  have hself : (setPort p r (Machine.setLock l k s)).lock l = k := by rw [lock_setPort, lock_setLock_self]
  have hother : ∀ m, m ≠ l → (setPort p r (Machine.setLock l k s)).lock m = s.lock m := fun m hm => by
    rw [lock_setPort, lock_setLock_ne _ _ _ _ hm]
  have hport : ∀ q, q ≠ p → (setPort p r (Machine.setLock l k s)).port q = s.port q := fun q hq => by
    rw [port_setPort_ne _ _ _ _ hq, port_setLock]
  refine ⟨fun m hm => ?free, fun m x hm => ?apart, fun m => ?once, fun m w hmem => ?recorded, fun q m x hx => ?entered,
    fun m hm => ?rank, fun hlim q => ?max⟩
  case free =>
    rcases eq_or_ne m l with rfl | hml
    · rw [hself] at hm ⊢; exact hfree hm
    · rw [hother m hml] at hm ⊢; exact h.freeEmpty m hm
  case apart =>
    rcases eq_or_ne m l with rfl | hml
    · rw [hself] at hm ⊢
      rcases eq_or_ne x p with rfl | hx
      · exact hheld hm
      · intro w hw hwx
        exact h.holderApart m x (hstate ▸ hm) w ((hothers w (hwx ▸ hx)).mp hw) hwx
    · rw [hother m hml] at hm ⊢; exact h.holderApart m x hm
  case once =>
    rcases eq_or_ne m l with rfl | hml
    · rw [hself]; exact honce
    · rw [hother m hml]; exact h.entryOnce m
  case recorded =>
    rcases eq_or_ne m l with rfl | hml
    · rw [hself] at hmem
      by_cases hw : w.port = p
      · rw [hw, port_setPort_self]; exact hrecorded w hmem hw
      · rw [hport _ hw]; exact h.entryRecorded m w ((hothers w hw).mp hmem)
    · rw [hother m hml] at hmem
      have hrec := h.entryRecorded m w hmem
      rw [hport _ fun hw => hml (hbefore m w.kind (hw ▸ hrec))]
      exact hrec
  case entered =>
    by_cases hq : q = p
    · subst hq
      rw [port_setPort_self] at hx
      obtain ⟨rfl, hw⟩ := hentered m x hx
      rwa [hself]
    · rw [hport q hq] at hx
      obtain ⟨w, hw, hwq⟩ := h.recordEntered q m x hx
      refine ⟨w, ?_, hwq⟩
      rcases eq_or_ne m l with rfl | hml
      · rw [hself]; exact (hothers w (hwq ▸ hq)).mpr hw
      · rwa [hother m hml]
  case rank =>
    rcases eq_or_ne m l with rfl | hml
    · rw [hself] at hm ⊢; exact hrank hm
    · rw [hother m hml] at hm ⊢; exact h.rankOrder m hm
  case max =>
    have hlocks : (setPort p r (Machine.setLock l k s)).heldLocks q = s.heldLocks q := by
      refine heldLocks_congr fun m => ?_
      rcases eq_or_ne m l with rfl | hml
      · rw [hself, hstate]
      · rw [hother m hml]
    rw [State.holdCount, hlocks]
    by_cases hq : q = p
    · subst hq; rw [port_setPort_self]; exact hmax hlim
    · rw [hport q hq]; exact h.holdMax hlim q

theorem perm_insertByRank (w : Waiter) (ws : List Waiter) : (insertByRank w ws).Perm (w :: ws) := by
  induction ws with
  | nil => exact .refl _
  | cons y ys ih =>
    unfold insertByRank
    split
    · exact (ih.cons y).trans (.swap w y ys)
    · exact .refl _

theorem perm_insertWaiter (policy : LockPolicy) (w : Waiter) (ws : List Waiter) :
    (insertWaiter policy w ws).Perm (w :: ws) := by
  cases policy with
  | arrival => exact List.perm_append_singleton w ws
  | rank => exact perm_insertByRank w ws

/-- The entry of a port that neither waits nor holds the lock joins the list by the lock's policy. -/
theorem TableOk.entered (h : TableOk lim s) {w : Waiter} (hwp : w.port = p)
    (hw : (s.port p).lock.request.isWaiting = false) (hroom : (s.heldLocks p).length < 8)
    (hfree : (s.lock l).state ≠ .free) (hheld : (s.lock l).state ≠ .held p) (hr : r.lock.request = .waiting l w.kind) :
    TableOk lim (setPort p r
      (Machine.setLock l { s.lock l with waiters := insertWaiter (s.lock l).policy w (s.lock l).waiters } s)) := by
  have hmem : ∀ x, x ∈ insertWaiter (s.lock l).policy w (s.lock l).waiters ↔ x = w ∨ x ∈ (s.lock l).waiters := fun x =>
    (perm_insertWaiter _ w _).mem_iff.trans List.mem_cons
  have hnone : ∀ x ∈ (s.lock l).waiters, x.port ≠ p := fun x hx hxp =>
    not_waiting hw l x.kind (hxp ▸ h.entryRecorded l x hx)
  refine h.setEntry rfl rfl (fun m x hm => absurd hm (not_waiting hw m x)) (fun x hx => ?others) ?once (fun hp => ?rank)
    (fun x hx hxp => ?recorded) (fun m x hm => ?entered) (fun hs => absurd hs hfree) (fun hs => absurd hs hheld)
    fun hlim => ?max
  case others => exact (hmem x).trans (or_iff_right fun hxw => hx (hxw ▸ hwp))
  case once =>
    refine ((perm_insertWaiter _ w _).map Waiter.port).nodup_iff.mpr (List.nodup_cons.mpr ⟨fun hin => ?_, h.entryOnce l⟩)
    obtain ⟨x, hx, hxw⟩ := List.mem_map.mp hin
    exact hnone x hx (hxw.trans hwp)
  case rank =>
    have hp' : (s.lock l).policy = .rank := hp
    simp only [hp', insertWaiter]
    exact insertByRank_pairwise w _ (h.rankOrder l hp')
  case recorded =>
    rcases (hmem x).mp hx with rfl | hx
    · exact hr
    · exact absurd hxp (hnone x hx)
  case entered =>
    rw [hr] at hm
    injection hm with hlm
    exact ⟨hlm.symm, w, (hmem w).mpr (.inl rfl), hwp⟩
  case max => simp only [hr, RequestRecord.isWaiting, if_true]; omega

theorem mem_dropWaiter {x : Waiter} {ws : List Waiter} : x ∈ dropWaiter p ws ↔ x ∈ ws ∧ x.port ≠ p := by
  simp [dropWaiter]

/-- The entry of a waiting port leaves its list, and the port waits no longer. -/
theorem TableOk.left (h : TableOk lim s) {x : WaitKind} (hreq : (s.port p).lock.request = .waiting l x)
    (hr : r.lock.request.isWaiting = false) :
    TableOk lim (setPort p r
      (Machine.setLock l { s.lock l with waiters := dropWaiter p (s.lock l).waiters } s)) := by
  refine h.setEntry rfl rfl (fun m y hm => ?before) (fun y hy => ?others) ?once (fun hp => ?rank) (fun y hy hyp => ?recorded)
    (fun m y hm => absurd hm (not_waiting hr m y)) (fun hs => ?free) (fun _ y hy => (mem_dropWaiter.mp hy).2) fun hlim => ?max
  case before => rw [hreq] at hm; injection hm with hlm; exact hlm.symm
  case others => exact mem_dropWaiter.trans (and_iff_left hy)
  case once => exact (h.entryOnce l).sublist (List.filter_sublist.map Waiter.port)
  case rank => exact (h.rankOrder l hp).sublist List.filter_sublist
  case recorded => exact absurd hyp (mem_dropWaiter.mp hy).2
  case free => simp [h.freeEmpty l hs, dropWaiter]
  case max =>
    have hold := h.holdMax hlim p
    rw [holdCount_waiting (by simp [hreq, RequestRecord.isWaiting])] at hold
    simp only [hr]
    simp
    omega

/-- A handover to the head of the list: its entry leaves, and its port holds the lock. -/
theorem TableOk.handed (h : TableOk lim s) {w : Waiter} {ws : List Waiter} (hw : (s.lock l).waiters = w :: ws)
    (hr : r.lock.request.isWaiting = false) :
    TableOk lim (setPort w.port r (Machine.setLock l ((s.lock l).granted w.port ws) s)) := by
  have hreq := h.entryRecorded l w (by simp [hw])
  have honce := h.entryOnce l
  rw [hw, List.map_cons, List.nodup_cons] at honce
  have hapart : ∀ x ∈ ws, x.port ≠ w.port := fun x hx hxw => honce.1 (hxw ▸ List.mem_map_of_mem hx)
  have hdrop : dropWaiter w.port (s.lock l).waiters = ws := by
    rw [hw]
    exact dropWaiter_only (us := []) rfl hapart
  have hleft := h.left (r := r) hreq hr
  rw [hdrop] at hleft
  have hgranted := hleft.setLock (l := l) (k := (s.lock l).granted w.port ws) ?waiters (.inl ?policy) nofun
    fun q hq => .inr ⟨?apart, fun hlim => ?room⟩
  · rwa [← setPort_setLock, setLock_setLock] at hgranted
  case waiters => rw [lock_setPort, lock_setLock_self]; rfl
  case policy => rw [lock_setPort, lock_setLock_self]; rfl
  case apart =>
    obtain rfl : w.port = q := by injection hq
    exact hapart
  case room =>
    obtain rfl : w.port = q := by injection hq
    have hold := h.holdMax hlim w.port
    rw [holdCount_waiting (by simp [hreq, RequestRecord.isWaiting])] at hold
    rw [holdCount_notWaiting (by rw [port_setPort_self]; exact hr), heldLocks_congr (s := s) fun m => ?_]
    · omega
    · rcases eq_or_ne m l with rfl | hm
      · rw [lock_setPort, lock_setLock_self]
      · rw [lock_setPort, lock_setLock_ne _ _ _ _ hm]

/-! ### A tick -/

theorem TableOk.tickAll (h : TableOk lim s) : TableOk lim (tickAll s) := by
  have hport : ∀ p, ((Machine.tickAll s).port p).lock = (s.port p).lock := fun p => by rw [port_tickAll]
  have hwaiters : ∀ l, ((Machine.tickAll s).lock l).waiters =
      (s.lock l).waiters.map fun w => { w with patience := w.patience.tick } := fun l => by rw [lock_tickAll]; rfl
  have hstate : ∀ l, ((Machine.tickAll s).lock l).state = (s.lock l).state := fun l => by rw [lock_tickAll]; rfl
  refine ⟨fun l hl => ?free, fun l x hl w hw => ?apart, fun l => ?once, fun l w hw => ?recorded, fun p l x hx => ?entered,
    fun l hl => ?rank, fun hlim p => ?max⟩
  case free => rw [hwaiters, h.freeEmpty l (hstate l ▸ hl)]; rfl
  case apart =>
    rw [hwaiters] at hw
    obtain ⟨v, hv, rfl⟩ := List.mem_map.mp hw
    exact h.holderApart l x (hstate l ▸ hl) v hv
  case once => rw [hwaiters, List.map_map]; exact h.entryOnce l
  case recorded =>
    rw [hwaiters] at hw
    obtain ⟨v, hv, rfl⟩ := List.mem_map.mp hw
    rw [hport]
    exact h.entryRecorded l v hv
  case entered =>
    rw [hport] at hx
    obtain ⟨v, hv, hvp⟩ := h.recordEntered p l x hx
    exact ⟨{ v with patience := v.patience.tick }, by rw [hwaiters]; exact List.mem_map.mpr ⟨v, hv, rfl⟩, hvp⟩
  case rank =>
    rw [hwaiters]
    exact List.pairwise_map.mpr (h.rankOrder l (by rw [lock_tickAll] at hl; exact hl))
  case max => rw [State.holdCount, heldLocks_congr hstate, hport]; exact h.holdMax hlim p

end Sys2Proof.Machine
end

section
/-! The lock table's tie to the held accesses, and with it that every step keeps the lock table in order. -/

namespace Sys2Proof.Machine

variable {p q : PortId} {l m : LockId} {s t : State} {own : Option PortId} {r r' : PortRecord} {k : LockRecord}
  {lim : Prop}

/-! ### The tie -/

/-- The tie of a port's request record to its held access, and that a withdrawn port waits no longer (R80). -/
structure PortRecord.ClaimOk (r : PortRecord) : Prop where
  heldClaim : ∀ h, r.held = some h → r.lock.request = .waiting h.lock .claim
  claimHeld : ∀ l, r.attach.pending = false → r.lock.request = .waiting l .claim → ∃ h, r.held = some h ∧ h.lock = l
  withdrawnDone : r.attach.attached = false → (r.attach.withdrawn = true ∨ r.attach.pending = false) →
    r.lock.request.isWaiting = false

theorem PortRecord.ClaimOk.congr (h : r.ClaimOk) (h' : PortNoLock r r') : r'.ClaimOk where
  heldClaim := by rw [h'.held, h'.request]; exact h.heldClaim
  claimHeld := by rw [h'.held, h'.request, h'.pending]; exact h.claimHeld
  withdrawnDone := by rw [h'.attached, h'.withdrawn, h'.pending, h'.request]; exact h.withdrawnDone

/-- A port that does not wait and has no held access. -/
theorem claimOk_settled (hr : r.lock.request.isWaiting = false) (hh : r.held = none) : r.ClaimOk where
  heldClaim h hs := by simp [hh] at hs
  claimHeld l _ hreq := absurd hreq (not_waiting hr l .claim)
  withdrawnDone _ _ := hr

theorem PortRecord.ClaimOk.held_none (h : r.ClaimOk) (hr : r.lock.request.isWaiting = false) : r.held = none := by
  cases hh : r.held with
  | none => rfl
  | some x => exact absurd (h.heldClaim x hh) (not_waiting hr _ _)

/-- A port that waits by command has no held access. -/
theorem PortRecord.ClaimOk.held_none_of_explicit (h : r.ClaimOk) (hr : r.lock.request = .waiting l .explicit) :
    r.held = none := by
  cases hh : r.held with
  | none => rfl
  | some x => simpa [hr] using h.heldClaim x hh

/-- The lock table in order and tied to the held accesses. -/
structure Tied (lim : Prop) (s : State) : Prop where
  table : TableOk lim s
  claims : ∀ p, (s.port p).ClaimOk

theorem NoLock.tied (h : NoLock own s t) (hs : Tied lim s) : Tied lim t :=
  ⟨h.tableOk hs.table, fun p => (hs.claims p).congr (h.port p)⟩

theorem Same.tied (h : Same own s t) (hs : Tied lim s) : Tied lim t := h.noLock.tied hs

theorem Tied.setPort (h : Tied lim s) (ht : TableOk lim (setPort p r (setLock l k s))) (hr : r.ClaimOk) :
    Tied lim (setPort p r (setLock l k s)) := by
  refine ⟨ht, fun q => ?_⟩
  rcases eq_or_ne q p with rfl | hq
  · rwa [port_setPort_self]
  · rw [port_setPort_ne _ _ _ _ hq]; exact h.claims q

/-- A change of one port's record that leaves its request record, or puts one that is not WAITING in place of such. -/
theorem Tied.setPort_request (h : Tied lim s) (hreq : r.lock.request = (s.port p).lock.request ∨
    ((s.port p).lock.request.isWaiting = false ∧ r.lock.request.isWaiting = false)) (hr : r.ClaimOk) :
    Tied lim (Machine.setPort p r s) := by
  refine ⟨h.table.congr (fun _ => .refl _) fun q => ?_, fun q => ?_⟩
  all_goals rcases eq_or_ne q p with rfl | hq
  · rwa [port_setPort_self]
  · rw [port_setPort_ne _ _ _ _ hq]; exact .inl rfl
  · rwa [port_setPort_self]
  · rw [port_setPort_ne _ _ _ _ hq]; exact h.claims q

theorem Tied.setLock (h : Tied lim s) (ht : TableOk lim (Machine.setLock l k s)) : Tied lim (Machine.setLock l k s) :=
  ⟨ht, h.claims⟩

theorem same_modAttach {f : AttachRecord → AttachRecord} (ha : (f (s.port p).attach).attached = (s.port p).attach.attached)
    (hp : (f (s.port p).attach).pending = (s.port p).attach.pending)
    (hw : (f (s.port p).attach).withdrawn = (s.port p).attach.withdrawn)
    (hm : (f (s.port p).attach).messagesDown = (s.port p).attach.messagesDown) : Same own s (modAttach p f s) :=
  same_setPort ⟨⟨rfl, rfl, rfl, ha, hp, hw⟩, hm, rfl, rfl, rfl⟩ (.inl rfl)

/-! ### Grants, entries and withdrawals -/

theorem Tied.grantLock (h : Tied lim s) (hfree : (s.lock l).state = .free) (hroom : lim → s.holdCount p < 8) :
    Tied lim (grantLock l p s) := h.setLock (h.table.grantLock hfree hroom)

theorem Tied.writeRequest (h : Tied lim s) {x : RequestRecord} (hw : (s.port p).lock.request.isWaiting = false)
    (hx : x.isWaiting = false) : Tied lim (writeRequest p x s) :=
  h.setPort_request (.inr ⟨hw, hx⟩) (claimOk_settled hx ((h.claims p).held_none hw))

theorem Tied.left (h : Tied lim s) {x : WaitKind} (hreq : (s.port p).lock.request = .waiting l x)
    (hr : r.lock.request.isWaiting = false) (hh : r.held = none) : Tied lim (Machine.setPort p r
      (Machine.setLock l { s.lock l with waiters := dropWaiter p (s.lock l).waiters } s)) :=
  h.setPort (h.table.left hreq hr) (claimOk_settled hr hh)

/-- The entry of an attached port joins the list: with no held access, or for the access that the port then holds. -/
theorem Tied.entered (h : Tied lim s) {w : Waiter} (hwp : w.port = p) (hw : (s.port p).lock.request.isWaiting = false)
    (hroom : (s.heldLocks p).length < 8) (hfree : (s.lock l).state ≠ .free) (hheld : (s.lock l).state ≠ .held p)
    (hr : r.lock.request = .waiting l w.kind) (ha : r.attach.attached = true)
    (hclaim : (w.kind = .explicit ∧ r.held = none) ∨ ∃ x, w.kind = .claim ∧ r.held = some x ∧ x.lock = l) :
    Tied lim (Machine.setPort p r (Machine.setLock l
      { s.lock l with waiters := insertWaiter (s.lock l).policy w (s.lock l).waiters } s)) := by
  refine h.setPort (h.table.entered hwp hw hroom hfree hheld hr) ⟨fun y hy => ?_, fun m _ hm => ?_, fun hd => ?_⟩
  · rcases hclaim with ⟨-, hn⟩ | ⟨x, hk, hx, rfl⟩
    · simp [hn] at hy
    · obtain rfl := Option.some.inj (hx.symm.trans hy)
      rw [hr, hk]
  · rw [hr] at hm
    injection hm with hlm hk
    rcases hclaim with ⟨he, -⟩ | ⟨x, -, hx, hxl⟩
    · simp [hk] at he
    · exact ⟨x, hx, hxl.trans hlm⟩
  · simp [ha] at hd

/-- A port with room for another lock is granted a FREE lock and its request record written. -/
theorem Tied.granted (h : Tied lim s) {x : RequestRecord} (hw : (s.port p).lock.request.isWaiting = false)
    (hroom : (s.heldLocks p).length < 8) (hfree : (s.lock l).state = .free) (hx : x.isWaiting = false) :
    Tied lim (setCause p .lockOutcome (Machine.writeRequest p x (Machine.grantLock l p s))) :=
  (same_setCause (own := none) _).tied
    ((h.grantLock hfree fun _ => (holdCount_notWaiting hw).trans_lt hroom).writeRequest hw hx)

/-! ### The end of a held access, and handovers -/

theorem setHeld_none_of_none (h : (s.port p).held = none) : setHeld p none s = s := by
  have hr : { s.port p with held := none } = s.port p := by rw [← h]
  rw [setHeld_eq, hr, setPort_port]

theorem Tied.recheckHeld (h : Tied lim (setHeld p none s)) : Tied lim (recheckHeld p s) := by
  cases hh : (s.port p).held with
  | none => rwa [recheckHeld_absent p s hh, ← setHeld_none_of_none hh]
  | some x => exact (same_recheckHeld hh).tied h

theorem Tied.endHeldExpired (h : Tied lim (setHeld p none s)) : Tied lim (endHeldExpired p s) := by
  cases hh : (s.port p).held with
  | none => rwa [endHeldExpired_absent hh, ← setHeld_none_of_none hh]
  | some x => exact (same_endHeldExpired hh).tied h

theorem Tied.handover (h : Tied lim s) : Tied lim (handover l s) := by
  cases hw : (s.lock l).waiters with
  | nil =>
    rw [handover_empty l s hw]
    exact h.setLock (h.table.setLock rfl (.inl rfl) (fun _ => hw) nofun)
  | cons w ws =>
    have hended : Tied lim (setHeld w.port none (s.handedTo l w ws)) := by
      simp only [State.handedTo, setHeld_eq, port_setPort_self, setPort_setPort]
      exact h.setPort (h.table.handed hw rfl) (claimOk_settled rfl rfl)
    rw [handover_handedTo hw]
    split
    · exact hended.recheckHeld
    next hk =>
      have hreq := h.table.entryRecorded l w (by simp [hw])
      have hexplicit : w.kind = .explicit := by cases hkind : w.kind <;> simp_all
      rw [hexplicit] at hreq
      rwa [setHeld_none_of_none] at hended
      rw [held_handedTo]
      exact (h.claims w.port).held_none_of_explicit hreq

theorem Tied.revoke (h : Tied lim s) : Tied lim (revoke l p s) := by
  rw [revoke_eq]
  exact ((same_setCause (own := none) _).tied ((same_modLockPort (own := none) rfl).tied h)).handover

/-! ### Expiries -/

theorem Tied.expireLease (h : Tied lim s) : Tied lim (expireLease l s) := by
  unfold Machine.expireLease
  split
  · exact h.revoke
  · exact h

theorem Tied.expirePatience (h : Tied lim s) : Tied lim (expirePatience l p s) := by
  unfold Machine.expirePatience
  dsimp only
  split
  · exact h
  next w hfind =>
    obtain rfl : w.port = p := by simpa using List.find?_some hfind
    have hreq := h.table.entryRecorded l w (List.mem_of_find?_eq_some hfind)
    have hended : Tied lim (setHeld w.port none (setCause w.port .lockOutcome
        (Machine.writeRequest w.port (.timedOut l w.kind) (removeWaiter l w.port s)))) := by
      simp only [removeWaiter, modLock_eq, writeRequest_eq, setCause_eq, setHeld_eq, port_setLock, port_setPort_self,
        setPort_setPort]
      exact h.left hreq rfl rfl
    split_ifs with hdue hk
    · exact hended.endHeldExpired
    · have hexplicit : w.kind = .explicit := by cases hkind : w.kind <;> simp_all
      rw [hexplicit] at hreq
      rwa [setHeld_none_of_none] at hended
      simp only [removeWaiter, modLock_eq, writeRequest_eq, setCause_eq, port_setLock, port_setPort_self, setPort_setPort]
      exact (h.claims w.port).held_none_of_explicit hreq
    · exact h

/-! ### The commands of the lock table -/

theorem Tied.lockTake (h : Tied lim s) : Tied lim (lockTake p l s) := by
  unfold Machine.lockTake
  split
  · exact (same_answerLock _).tied h
  · exact (same_answerLock _).tied h
  next hfree =>
    split
    · exact (same_answerLock _).tied h
    next hroom => exact (same_answerLock _).tied (h.grantLock hfree fun _ => Nat.not_le.mp hroom)

theorem Tied.lockWait (h : Tied lim s) (ha : (s.port p).attach.attached = true) {n : Ticks} :
    Tied lim (lockWait p l n s) := by
  unfold Machine.lockWait
  split_ifs with hw hheld hroom hfree
  · exact (same_answerLock _).tied h
  · exact (same_answerLock _).tied h
  · exact (same_answerLock _).tied h
  · exact (same_answerLock _).tied (h.granted (by simpa using hw) (Nat.not_le.mp hroom) hfree rfl)
  · have hw' : (s.port p).lock.request.isWaiting = false := by simpa using hw
    have hentered := h.entered (w := { port := p, kind := .explicit, patience := Countdown.load n, rank := s.rank p })
      (r := { s.port p with lock := { (s.port p).lock with request := .waiting l .explicit } })
      rfl hw' (Nat.not_le.mp hroom) hfree hheld rfl ha (.inl ⟨rfl, (h.claims p).held_none hw'⟩)
    exact (same_answerLock _).tied hentered

theorem Tied.lockRelease (h : Tied lim s) : Tied lim (lockRelease p l s) := by
  unfold Machine.lockRelease
  split
  · exact (same_answerLock _).tied h.handover
  · exact (same_answerLock _).tied h

theorem Tied.lockCancel (h : Tied lim s) (hh : (s.port p).held = none) : Tied lim (lockCancel p l s) := by
  unfold Machine.lockCancel
  split
  next m x hreq =>
    refine (same_answerLock _).tied ?_
    simp only [removeWaiter, modLock_eq, writeRequest_eq, setCause_eq, port_setLock, port_setPort_self, setPort_setPort]
    exact h.left hreq rfl hh
  · exact (same_answerLock _).tied h

theorem Tied.lockForce (h : Tied lim s) : Tied lim (lockForce p l s) := by
  unfold Machine.lockForce
  split
  · exact (same_answerLock _).tied h
  · split
    · split
      · exact (same_answerLock _).tied h.handover
      · exact (same_answerLock _).tied h.revoke
    · exact (same_answerLock _).tied h.handover
    · exact (same_answerLock _).tied h

theorem Tied.configWrite (h : Tied lim s) {x : Reg} {w : Word} {body : State → State} (hb : Tied lim (body s)) :
    Tied lim (configWrite p x w body s) := by
  unfold Machine.configWrite
  split
  · exact (same_refuseCycle _ _ _ _).tied h
  · exact hb

/-- LOCK_CFG changes the policy only over an empty list. -/
theorem Tied.writeLockCfg (h : Tied lim s) {w : Word} : Tied lim (writeLockCfg p w s) := by
  refine h.configWrite ?_
  dsimp only
  split
  · exact (same_refuseCycle _ _ _ _).tied h
  next hok =>
    refine (same_done none).tied (h.setLock (h.table.setLock rfl ?_ (h.table.freeEmpty _) fun _ hs => .inl hs))
    by_cases hp : policyOf w = (s.lock (s.port p).lock.sel).policy
    · exact .inl hp
    · exact .inr (by simpa [hp] using hok)

/-! ### Store requests and their grants -/

theorem Tied.requestStore (h : Tied lim s) (a : HostAccess) : Tied lim (requestStore p a s) := by
  simp only [Machine.requestStore, modEngine_eq, modBus_eq, port_setPort_self, setPort_setPort]
  exact h.setPort_request (.inl rfl) ⟨(h.claims p).heldClaim, (h.claims p).claimHeld, (h.claims p).withdrawnDone⟩

theorem Tied.granting (h : Tied lim s) : Tied lim (s.granting p) := by
  have hrot : NoLock none s { s with rotation := .port p } := noLock_of_eq rfl rfl rfl
  exact (hrot.tied h).setPort_request (.inl rfl)
    ⟨(h.claims p).heldClaim, (h.claims p).claimHeld, (h.claims p).withdrawnDone⟩

/-- A claim joins the list of a lock that another port holds, since its guard refused the access. -/
theorem Tied.claim (h : Tied lim s) (ha : (s.port p).attach.attached = true) (hheld : (s.lock l).state ≠ .held p)
    {a : HostAccess} {addr : Word} {d : DescId} : Tied lim (claim p a addr d l s) := by
  unfold Machine.claim
  split_ifs with hw hroom hfree
  · exact (same_refuseAccess _ _ _ _ _).tied h
  · exact (same_refuseAccess _ _ _ _ _).tied h
  · exact (same_completeAccess _ _).tied (h.granted (by simpa using hw) (Nat.not_le.mp hroom) hfree rfl)
  · rw [holdAccess_eq]
    exact h.entered rfl (by simpa using hw) (Nat.not_le.mp hroom) hfree hheld rfl ha (.inr ⟨_, rfl, rfl, rfl⟩)

/-- A guard that refuses is no lock of the port. -/
theorem not_held_of_guarded {x : AccessType} {a : Word} {d : DescId} {c : Bool}
    (h : s.check p x a = .guarded d l c) : (s.lock l).state ≠ .held p := by
  unfold State.check State.checkGuard at h
  split_ifs at h
  split at h
  · cases h
  · split at h
    · cases h
    · split_ifs at h with hs
      injection h with _ hl
      exact hl ▸ hs

theorem Tied.grantNext (h : Tied lim s) (hc : CyclesOk none s) : Tied lim (grantNext s) := by
  unfold Machine.grantNext
  split
  next p hp =>
    unfold grantPort
    split
    · exact h
    next a hreq =>
      have hattached : ((s.granting p).port p).attach.attached = true := by
        rw [port_granting]
        by_contra hd
        simpa [hreq] using ((hc p).1.detached (by simpa using hd)).1
      change Tied lim (serveAccess p a (s.granting p))
      unfold serveAccess
      dsimp only
      split
      · exact (same_completeAccess _ _).tied h.granting
      · exact (same_refuseAccess _ _ _ _ _).tied h.granting
      · exact (same_refuseAccess _ _ _ _ _).tied h.granting
      next hg => exact h.granting.claim hattached (not_held_of_guarded hg)
      · exact (same_refuseAccess _ _ _ _ _).tied h.granting
  · exact h

/-! ### Detach, reattach and teardown -/

theorem free_detach (reason : DetachReason) (r : PortRecord) : (r.detach reason).Free := ⟨rfl, rfl⟩

theorem Tied.detachPort (h : Tied lim s) (reason : DetachReason) : Tied lim (detachPort p reason s) :=
  h.setPort_request (.inl rfl) ⟨nofun, nofun, fun _ hd => by simp [PortRecord.detach] at hd⟩

theorem CyclesOk.detachPort (h : CyclesOk own s) (reason : DetachReason) : CyclesOk own (detachPort p reason s) :=
  h.setPort_free (free_detach reason _)

theorem Tied.detachCommand (h : Tied lim s) : Tied lim (detachCommand p q s) := by
  refine h.configWrite ?_
  split_ifs
  · exact (same_badValue _ _).tied h
  · exact (same_done none).tied (h.detachPort _)
  · exact (same_done none).tied h

theorem CyclesOk.detachCommand (h : CyclesOk (some p) s) : CyclesOk (some p) (detachCommand p q s) := by
  unfold Machine.detachCommand configWrite
  dsimp only
  split_ifs
  · exact (same_refuseCycle _ _ _ _).noLock.cyclesOk h
  · exact (same_badValue _ _).noLock.cyclesOk h
  · exact (same_done none).noLock.cyclesOk (h.detachPort _)
  · exact (same_done none).noLock.cyclesOk h

theorem Tied.leavePort (h : Tied lim s) : Tied lim (leavePort p s) := ((same_done none).tied h).detachPort _

theorem CyclesOk.leavePort (h : CyclesOk (some p) s) : CyclesOk (some p) (leavePort p s) :=
  ((same_done none).noLock.cyclesOk h).detachPort _

theorem Tied.reattach (h : Tied lim s) (hw : (s.port p).lock.request.isWaiting = false) : Tied lim (reattach p s) := by
  refine (same_peerChange (own := none)).tied (h.setPort_request (.inl rfl) ?_)
  exact claimOk_settled hw ((h.claims p).held_none hw)

theorem CyclesOk.reattach (h : CyclesOk own s) : CyclesOk own (reattach p s) := by
  refine (same_peerChange (own := own)).noLock.cyclesOk (h.setPort ⟨(h p).1.heldPhase, (h p).1.requestPhase, nofun⟩ (h p).2)

theorem Tied.detachedCycle (h : Tied lim s) (hd : (s.port p).attach.attached = false) (c : BusCycle) :
    Tied lim (detachedCycle p c s) := by
  unfold Machine.detachedCycle
  split
  · exact (same_completeCycle _ _).tied h
  · split
    next hj =>
      have hpending : (s.port p).attach.pending = false := by
        have := hj.2.2
        simp only [AttachRecord.joinable, Bool.and_eq_true, Bool.not_eq_true'] at this
        exact this.2
      exact (same_completeCycle _ _).tied (h.reattach ((h.claims p).withdrawnDone hd (.inr hpending)))
    · exact (same_completeCycle _ _).tied h

theorem CyclesOk.detachedCycle (h : CyclesOk (some p) s) (c : BusCycle) : CyclesOk (some p) (detachedCycle p c s) := by
  unfold Machine.detachedCycle
  split
  · exact (same_completeCycle _ _).noLock.cyclesOk h
  · split
    · exact (same_completeCycle _ _).noLock.cyclesOk h.reattach
    · exact (same_completeCycle _ _).noLock.cyclesOk h

theorem Tied.withdraw (h : Tied lim s) (hh : (s.port p).held = none) : Tied lim (withdraw p s) := by
  cases hw : (s.port p).lock.request.isWaiting with
  | true =>
    obtain ⟨l, x, hreq⟩ := waiting_of_isWaiting hw
    rw [withdraw_waiting hreq]
    exact h.left hreq rfl hh
  | false =>
    rw [withdraw_notWaiting hw]
    exact h.setPort_request (.inl rfl) (claimOk_settled hw hh)

theorem Tied.releaseHeld (h : Tied lim s) : Tied lim (releaseHeld p l s) := by
  have hattach : Tied lim (modAttach p (fun a => { a with toRelease := a.toRelease.filter fun m => decide (m ≠ l) }) s) :=
    (same_modAttach (own := none) rfl rfl rfl rfl).tied h
  unfold Machine.releaseHeld
  dsimp only
  split_ifs
  · split
    · exact hattach.handover
    · exact hattach.setLock (hattach.table.setLock rfl (.inl rfl) nofun nofun)
  · exact hattach

theorem Tied.complete (h : Tied lim s) (hw : (s.port p).lock.request.isWaiting = false) : Tied lim (complete p s) := by
  have hreset : Tied lim (peerChange p (modPort p PortRecord.toReset s)) :=
    (same_peerChange (own := none)).tied (h.setPort_request (.inr ⟨hw, rfl⟩) (claimOk_settled rfl rfl))
  unfold Machine.complete
  dsimp only
  split
  · refine hreset.reattach ?_
    rw [port_peerChange, if_neg (by simp), modPort, port_setPort_self]
    rfl
  · exact hreset

theorem CyclesOk.complete (h : CyclesOk none s) : CyclesOk none (complete p s) := by
  have hreset : CyclesOk none (peerChange p (modPort p PortRecord.toReset s)) :=
    (same_peerChange (own := none)).noLock.cyclesOk (h.setPort_free ⟨rfl, rfl⟩)
  unfold Machine.complete
  dsimp only
  split
  · exact hreset.reattach
  · exact hreset

/-! ### The pins, the resets and the ends of strobes -/

theorem same_modPrst (b : Bool) : Same own s (modPort p (fun r => { r with prst := b }) s) :=
  same_setPort ⟨⟨rfl, rfl, rfl, rfl, rfl, rfl⟩, rfl, rfl, rfl, rfl⟩ (.inl rfl)

theorem phase_endCycle (b : Bus) : b.endCycle.phase = b.phase := by
  unfold Bus.endCycle
  split
  · split <;> simp_all
  · rfl

theorem same_endCycle : Same own s (modBus p Bus.endCycle s) := same_modBus (phase_endCycle _)

theorem Tied.assertPin (h : Tied lim s) : Tied lim (assertPin p s) := by
  have hpin : Tied lim (modPort p (fun r => { r with prst := true }) s) := (same_modPrst (own := none) true).tied h
  unfold Machine.assertPin
  dsimp only
  split_ifs
  · exact h
  · exact hpin
  · exact hpin.detachPort _
  · refine Tied.setPort_request ((same_modAttach (own := none) rfl rfl rfl rfl).tied hpin) (.inl rfl) ?_
    exact (((same_modAttach (own := none) rfl rfl rfl rfl).tied hpin).claims p).congr ⟨rfl, rfl, rfl, rfl, rfl, rfl⟩

theorem CyclesOk.assertPin (h : CyclesOk none s) : CyclesOk none (assertPin p s) := by
  have hpin : CyclesOk none (modPort p (fun r => { r with prst := true }) s) := (same_modPrst true).noLock.cyclesOk h
  unfold Machine.assertPin
  dsimp only
  split_ifs with hprst hn ha
  · exact h
  · exact hpin
  · exact hpin.detachPort _
  · have hreason := (same_modAttach (own := none) (p := p) (f := fun a => { a with reason := .pin }) rfl rfl rfl
      rfl).noLock.cyclesOk hpin
    refine hreason.setPort_free ?_
    obtain ⟨hr, hh⟩ := (h p).1.detached (by simpa using ha)
    simp only [modAttach_eq, modPort, port_setPort_self]
    exact ⟨hh, hr⟩

theorem Tied.releasePin (h : Tied lim s) : Tied lim (releasePin p s) := by
  have hpin : Tied lim (modPort p (fun r => { r with prst := false }) s) := (same_modPrst (own := none) false).tied h
  unfold Machine.releasePin
  dsimp only
  split
  next hok =>
    obtain ⟨-, -, hd, -, hpending⟩ := hok
    refine hpin.reattach ?_
    rw [modPort, port_setPort_self]
    exact (h.claims p).withdrawnDone (by simpa using hd) (.inr (by simpa using hpending))
  next => exact hpin

theorem CyclesOk.releasePin (h : CyclesOk none s) : CyclesOk none (releasePin p s) := by
  have hpin : CyclesOk none (modPort p (fun r => { r with prst := false }) s) := (same_modPrst false).noLock.cyclesOk h
  unfold Machine.releasePin
  dsimp only
  split
  · exact hpin.reattach
  · exact hpin

theorem nrst_assertPin : (assertPin p s).nrst = s.nrst := by
  unfold assertPin
  dsimp only
  split_ifs <;> rfl

theorem nrst_releasePin : (releasePin p s).nrst = s.nrst := by
  unfold releasePin
  dsimp only
  split
  · exact kept_reattach.nrst
  · rfl

/-- Under nRST a pin's level alone is kept. -/
theorem same_assertPin (hn : s.nrst = true) : Same own s (assertPin p s) := by
  unfold assertPin
  dsimp only
  split
  · exact .refl s
  · exact same_modPrst true

theorem same_releasePin (hn : s.nrst = true) : Same own s (releasePin p s) := by
  unfold releasePin
  dsimp only
  rw [if_neg fun h => h.2.1 hn]
  exact same_modPrst false

/-- Where no lock is held and no port waits, the lock table is in order. -/
theorem tied_of_free (hl : ∀ l, s.lock l = LockRecord.reset) (hw : ∀ p, (s.port p).lock.request.isWaiting = false)
    (hh : ∀ p, (s.port p).held = none) : Tied lim s where
  table := by
    refine ⟨fun l _ => by rw [hl]; rfl, fun l x hx => ?_, fun l => by rw [hl]; exact List.nodup_nil, fun l w hw => ?_,
      fun p l x hx => absurd hx (not_waiting (hw p) l x), fun l _ => by rw [hl]; exact List.Pairwise.nil, fun _ p => ?_⟩
    · rw [hl] at hx; cases hx
    · rw [hl] at hw; cases hw
    · rw [holdCount_notWaiting (hw p), heldLocks_of_free fun l => by rw [hl]; rfl]; exact Nat.zero_le _
  claims p := claimOk_settled (hw p) (hh p)

theorem tied_assertReset : Tied lim (assertReset s) :=
  tied_of_free lock_assertReset (fun p => by rw [port_assertReset]; rfl) fun p => by rw [port_assertReset]; rfl

theorem cyclesOk_assertReset : CyclesOk none (assertReset s) := fun p =>
  ⟨PortRecord.Free.cycleOk (by rw [port_assertReset]; exact ⟨rfl, rfl⟩), nofun⟩

theorem Tied.releaseReset (h : Tied lim s) (a b : Bool) (hn : s.nrst = true)
    (hw : ∀ p, (s.port p).lock.request.isWaiting = false) : Tied lim (releaseReset a b s) := by
  have hport : ∀ p, ((Machine.releaseReset a b s).port p).lock = (s.port p).lock ∧
      ((Machine.releaseReset a b s).port p).held = (s.port p).held := fun p => by
    rw [port_releaseReset a b hn, resetReleased_eq]
    exact ⟨rfl, rfl⟩
  have hlock : ∀ l, (Machine.releaseReset a b s).lock l = s.lock l := fun l => by simp [Machine.releaseReset, hn, State.lock]
  refine ⟨h.table.congr (fun l => by rw [hlock]; exact .refl _) fun p => .inl (by rw [(hport p).1]), fun p => ?_⟩
  exact claimOk_settled (by rw [(hport p).1]; exact hw p) (by rw [(hport p).2]; exact (h.claims p).held_none (hw p))

/-- At the release of nRST every port is without a held access and without a store request. -/
theorem cyclesOk_releaseReset (a b : Bool) (hn : s.nrst = true) (hf : ∀ p, (s.port p).Free) :
    CyclesOk none (releaseReset a b s) := by
  refine fun p => ⟨PortRecord.Free.cycleOk ?_, nofun⟩
  rw [port_releaseReset a b hn, resetReleased_eq]
  exact hf p

theorem Tied.tickAll (h : Tied lim s) : Tied lim (tickAll s) :=
  ⟨h.table.tickAll, fun p => by rw [port_tickAll]; exact (h.claims p).congr ⟨rfl, rfl, rfl, rfl, rfl, rfl⟩⟩

theorem CyclesOk.tickAll (h : CyclesOk own s) : CyclesOk own (tickAll s) := fun p => by
  rw [port_tickAll]; exact ⟨(h p).1.congr rfl rfl rfl rfl, (h p).2⟩

/-! ### Every step -/

/-- The whole invariant of the lock table, HOLD_MAX under the condition `lim`. -/
structure LockInv (lim : Prop) (s : State) : Prop where
  tied : Tied lim s
  cycles : CyclesOk none s
  underReset : s.nrst = true → ∀ p, (s.port p).lock.request.isWaiting = false ∧ (s.port p).engine.request = none

theorem lockInv_iff : LockInv lim s ↔ LockTableOk s ∧ (lim → HoldMaxKept s) := by
  constructor
  · rintro ⟨⟨ht, hc⟩, hcy, hr⟩
    exact ⟨⟨ht.freeEmpty, ht.holderApart, ht.entryOnce, ht.entryRecorded, ht.recordEntered, ht.rankOrder,
      fun p => (hc p).heldClaim, fun p => (hc p).claimHeld, fun p => (hcy p).1.heldPhase, fun p => (hcy p).1.requestPhase,
      fun p => (hcy p).1.detached, fun p => (hc p).withdrawnDone, hr⟩, ht.holdMax⟩
  · rintro ⟨h, hmax⟩
    exact ⟨⟨⟨h.freeEmpty, h.holderApart, h.entryOnce, h.entryRecorded, h.recordEntered, h.rankOrder, hmax⟩,
      fun p => ⟨h.heldClaim p, h.claimHeld p, h.withdrawnDone p⟩⟩,
      fun p => ⟨⟨h.heldPhase p, h.requestPhase p, h.detachedQuiet p⟩, nofun⟩, h.underReset⟩

/-- Outside of reset. -/
theorem lockInv_running (hn : t.nrst = false) (h : Tied lim t) (hc : CyclesOk none t) : LockInv lim t :=
  ⟨h, hc, fun hr => by simp [hn] at hr⟩

theorem NoLock.lockInv (h : NoLock none s t) (hs : LockInv lim s) : LockInv lim t where
  tied := h.tied hs.tied
  cycles := h.cyclesOk hs.cycles
  underReset hr p := by rw [(h.port p).request, (h.port p).storeRequest]; exact hs.underReset (h.nrst ▸ hr) p

/-- The port whose window takes a cycle has no held access and no store request. -/
theorem cyclesOk_begin (h : CyclesOk none s) (hf : (s.port p).Free) :
    CyclesOk (some p) (modBus p (fun _ => Bus.begin) s) :=
  same_begin.noLock.cyclesOk fun q => ⟨(h q).1, fun hq => Option.some.inj hq ▸ hf⟩

theorem CyclesOk.lockEvent (h : CyclesOk (some p) s) (ha : (s.port p).attach.attached = true) {f : State → State}
    (hf : LockEvent p f) : CyclesOk none (f s) := by
  cases hf with
  | take l => exact (noMsg_lockTake.cycles h).weaken
  | wait l n => exact (noMsg_lockWait.cycles h).weaken
  | release l => exact (noMsg_lockRelease.cycles h).weaken
  | cancel l => exact (noMsg_lockCancel.cycles h).weaken
  | force l => exact (noMsg_lockForce.cycles h).weaken
  | lockCfg w => exact (noMsg_writeLockCfg.cycles h).weaken
  | request a => exact cyclesOk_requestStore a h ha
  | leave => exact h.leavePort.weaken
  | detach q => exact h.detachCommand.weaken

theorem Tied.lockEvent (h : Tied lim s) (hc : CyclesOk (some p) s) (ha : (s.port p).attach.attached = true)
    {f : State → State} (hf : LockEvent p f) : Tied lim (f s) := by
  cases hf with
  | take l => exact h.lockTake
  | wait l n => exact h.lockWait ha
  | release l => exact h.lockRelease
  | cancel l => exact h.lockCancel ((hc p).2 rfl).1
  | force l => exact h.lockForce
  | lockCfg w => exact h.writeLockCfg
  | request a => exact h.requestStore a
  | leave => exact h.leavePort
  | detach q => exact h.detachCommand

theorem windowKeeps_lockInv : WindowKeeps (LockInv lim) where
  event {p f s} hf hr h := by
    have hcycles := cyclesOk_begin h.cycles ((h.cycles p).1.free (by simp [hr.idle]) (by simp [hr.idle]))
    have htied : Tied lim (modBus p (fun _ => Bus.begin) s) := same_begin.tied h.tied
    have hn : (f (modBus p (fun _ => Bus.begin) s)).nrst = false :=
      (kept_begin.trans (kept_windowEvent hf)).nrst.trans hr.nrst
    have ha : ((modBus p (fun _ => Bus.begin) s).port p).attach.attached = true := by
      rw [modBus_begin_eq, port_setPort_self]; exact hr.attached
    rcases hf.kind with hl | hm | hsame
    · exact lockInv_running hn (htied.lockEvent hcycles ha hl) (hcycles.lockEvent ha hl)
    · exact lockInv_running hn ((noLock_messageEvent hm).tied htied) ((noLock_messageEvent hm).cyclesOk hcycles).weaken
    · exact lockInv_running hn ((hsame _).tied htied) ((hsame _).noLock.cyclesOk hcycles).weaken
  detached {p s} c hr h := by
    obtain ⟨hreq, hheld⟩ := (h.cycles p).1.detached hr.detached
    have hcycles := cyclesOk_begin h.cycles ⟨hheld, hreq⟩
    have htied : Tied lim (modBus p (fun _ => Bus.begin) s) := same_begin.tied h.tied
    exact lockInv_running ((kept_begin.trans (kept_detachedCycle c)).nrst.trans hr.nrst)
      (htied.detachedCycle (by rw [modBus_begin_eq, port_setPort_self]; exact hr.detached) c) (hcycles.detachedCycle c).weaken
  waits c _ _ h := (same_modBus rfl).noLock.lockInv h
  strobes _ h := (same_modBus rfl).noLock.lockInv h

theorem Runs.lockInv (hruns : Runs s t) (h : LockInv lim s) : LockInv lim t := by
  have hw := windowKeeps_lockInv (lim := lim)
  have htied := h.tied
  have hcycles := h.cycles
  cases hruns with
  | window p c => exact hw.settle (hw.hostCycle c h)
  | nothing => exact h
  | noEvent => exact hw.settle h
  | tick hn => exact lockInv_running (kept_tickAll.nrst.trans hn) htied.tickAll hcycles.tickAll
  | leaseExpiry l hn =>
    exact hw.settle (lockInv_running (kept_expireLease.nrst.trans hn) htied.expireLease (noMsg_expireLease.cycles hcycles))
  | patienceExpiry l p hn =>
    exact hw.settle
      (lockInv_running (kept_expirePatience.nrst.trans hn) htied.expirePatience (noMsg_expirePatience.cycles hcycles))
  | rotationGrant hn =>
    exact hw.settle
      (lockInv_running (kept_grantNext.nrst.trans hn) (htied.grantNext hcycles) (noMsg_grantNext.cycles hcycles))
  | holdExpiry q p hn => exact hw.settle (noLock_expireHold.lockInv h)
  | sourceRead hn hjobs hword hnext => exact (noLock_sourceHalf hnext).lockInv h
  | destinationWrite hn hjobs hword hnext => exact (noLock_destinationHalf hnext).lockInv h
  | pinAssert p =>
    cases hn : s.nrst with
    | true => exact (same_assertPin hn).noLock.lockInv h
    | false => exact lockInv_running (nrst_assertPin.trans hn) htied.assertPin hcycles.assertPin
  | pinRelease p =>
    cases hn : s.nrst with
    | true => exact (same_releasePin hn).noLock.lockInv h
    | false => exact lockInv_running (nrst_releasePin.trans hn) htied.releasePin hcycles.releasePin
  | withdrawal p htd hnot =>
    exact lockInv_running (kept_withdraw.nrst.trans htd.nrst) (htied.withdraw ((hcycles p).1.detached htd.detached).2)
      (noMsg_withdraw.cycles hcycles)
  | releaseEvent p l htd hdone =>
    exact hw.settle
      (lockInv_running (kept_releaseHeld.nrst.trans htd.nrst) htied.releaseHeld (noMsg_releaseHeld.cycles hcycles))
  | messageTeardown p htd hm => exact hw.settle (noLock_tearDownMessages.lockInv h)
  | copyTeardown p htd => exact (same_removeJob.trans (same_modAttach rfl rfl rfl rfl)).noLock.lockInv h
  | completion p htd hdown =>
    have hwaits := (htied.claims p).withdrawnDone htd.detached (.inl (allDown_iff.mp hdown).1)
    exact lockInv_running (kept_complete.nrst.trans htd.nrst) (htied.complete hwaits) hcycles.complete
  | deviceReset =>
    exact ⟨tied_assertReset, cyclesOk_assertReset, fun _ p => by rw [port_assertReset]; exact ⟨rfl, rfl⟩⟩
  | resetRelease a b hn =>
    have hquiet := h.underReset hn
    refine lockInv_running (by simp [releaseReset, hn]) (htied.releaseReset a b hn fun p => (hquiet p).1) ?_
    exact cyclesOk_releaseReset a b hn fun p => ⟨(htied.claims p).held_none (hquiet p).1, (hquiet p).2⟩
  | cycleEnd p => exact same_endCycle.noLock.lockInv h

/-- Settles O57: the invariant is carried with HOLD_MAX under the condition that it held before the step. -/
theorem lockTableKept : Obligations.LockTableKept := by
  intro s t hs hstep
  have hinv : LockInv (HoldMaxKept s) s := lockInv_iff.mpr ⟨hs, id⟩
  rcases step_runs hstep with rfl | ⟨rest, hruns⟩
  · exact ⟨hs, id⟩
  · have hrest : NoLock none s { s with pending := rest } := noLock_of_eq rfl rfl rfl
    exact lockInv_iff.mp (hruns.lockInv (hrest.lockInv hinv))

end Sys2Proof.Machine
end

section
/-! The message unit's part of the invariants: every hold-list entry stands for one send still held, and every held send
has its entry. The lists only shrink but for a send that is held, so that most events need one lemma. -/

namespace Sys2Proof.Machine

variable {p q : PortId} {l : LockId} {s t : State} {own : Option PortId} {r r' : PortRecord} {w : Word}

/-! ### The invariant -/

/-- What an entry on the hold list of `q` rests on: its sender's cycle is held for it, or the teardown at the message unit
that follows the sender's detach is to come. -/
def PortRecord.Holding (r : PortRecord) (q : PortId) : Prop :=
  r.bus.phase = .send q ∨ (r.attach.attached = false ∧ r.attach.pending = true ∧ r.attach.messagesDown = false)

/-- The queues, the staging and the hold lists in order (R80, R116, R119, R125, R126); the port `own`, whose window runs
the event, has no send held. -/
structure HoldsOk (own : Option PortId) (s : State) : Prop where
  words : ∀ q, wordsUsed (s.port q).msg.queue ≤ 32
  staged : ∀ p, (s.port p).msg.staging.length ≤ 6
  entrySender : ∀ q, ∀ e ∈ (s.port q).msg.holdList, e.sender ≠ q
  entryLength : ∀ q, ∀ e ∈ (s.port q).msg.holdList, e.length = (s.port e.sender).msg.staging.length
  entryHeld : ∀ q, ∀ e ∈ (s.port q).msg.holdList, (s.port e.sender).Holding q
  entryOnce : ∀ q, ((s.port q).msg.holdList.map HoldEntry.sender).Nodup
  sendEntered : ∀ p q, (s.port p).bus.phase = .send q → ∃ e ∈ (s.port q).msg.holdList, e.sender = p
  entryOneList : ∀ q q', ∀ e ∈ (s.port q).msg.holdList, ∀ e' ∈ (s.port q').msg.holdList, e.sender = e'.sender → q = q'
  detachedEnded : ∀ p, (s.port p).attach.attached = false → ∀ q, (s.port p).bus.phase ≠ .send q
  ownEnded : ∀ p, own = some p → ∀ q, (s.port p).bus.phase ≠ .send q

/-- No list holds an entry of the port. -/
def State.NoEntry (s : State) (p : PortId) : Prop := ∀ q, ∀ e ∈ (s.port q).msg.holdList, e.sender ≠ p

theorem HoldsOk.noEntry (h : HoldsOk own s) (hp : ∀ q, ¬ (s.port p).Holding q) : s.NoEntry p := by
  rintro q e he rfl
  exact hp q (h.entryHeld q e he)

/-- An attached port with no send held has no entry. -/
theorem HoldsOk.noEntry_of_attached (h : HoldsOk own s) (ha : (s.port p).attach.attached = true)
    (hp : ∀ q, (s.port p).bus.phase ≠ .send q) : s.NoEntry p :=
  h.noEntry fun q hq => hq.elim (hp q) fun hd => by simp [ha] at hd

theorem HoldsOk.weaken (h : HoldsOk own s) : HoldsOk none s := { h with ownEnded := nofun }

/-! ### Lists that shrink -/

/-- The lists shrink, by the entries whose sends end; the staging of the senders that stay on a list keeps its length. -/
theorem HoldsOk.of_sublist (h : HoldsOk own s)
    (hlist : ∀ q, (t.port q).msg.holdList.Sublist (s.port q).msg.holdList)
    (hwords : ∀ q, wordsUsed (t.port q).msg.queue ≤ 32) (hstaged : ∀ p, (t.port p).msg.staging.length ≤ 6)
    (hlength : ∀ q, ∀ e ∈ (t.port q).msg.holdList,
      (t.port e.sender).msg.staging.length = (s.port e.sender).msg.staging.length)
    (hheld : ∀ q, ∀ e ∈ (t.port q).msg.holdList, (t.port e.sender).Holding q)
    (hsend : ∀ p q, (t.port p).bus.phase = .send q →
      (s.port p).bus.phase = .send q ∧ ∃ e ∈ (t.port q).msg.holdList, e.sender = p)
    (hdetached : ∀ p, (t.port p).attach.attached = false → ∀ q, (t.port p).bus.phase ≠ .send q) : HoldsOk own t where
  words := hwords
  staged := hstaged
  entrySender q e he := h.entrySender q e ((hlist q).subset he)
  entryLength q e he := (h.entryLength q e ((hlist q).subset he)).trans (hlength q e he).symm
  entryHeld := hheld
  entryOnce q := (h.entryOnce q).sublist ((hlist q).map HoldEntry.sender)
  sendEntered p q hp := (hsend p q hp).2
  entryOneList q q' e he e' he' := h.entryOneList q q' e ((hlist q).subset he) e' ((hlist q').subset he')
  detachedEnded := hdetached
  ownEnded p hp q hq := h.ownEnded p hp q (hsend p q hq).1

/-- An event that leaves the message unit. -/
theorem NoMsg.holdsOk (h : NoMsg own s t) (hc : CyclesOk own s) (hs : HoldsOk own s) : HoldsOk own t := by
  have hlist : ∀ q, (t.port q).msg.holdList = (s.port q).msg.holdList := fun q => (h.port q).holdList
  refine hs.of_sublist (fun q => by rw [hlist]) (fun q => by rw [(h.port q).queue]; exact hs.words q)
    (fun p => by rw [(h.port p).staging]; exact hs.staged p) (fun q e _ => by rw [(h.port e.sender).staging])
    (fun q e he => ?held) (fun p q hp => ?send) fun p ha q hp => ?detached
  case held =>
    rw [hlist] at he
    have hport := h.port e.sender
    rcases hs.entryHeld q e he with hsend | hd
    · rcases (h.sends hc e.sender q).2 hsend with hsend' | ho
      · exact .inl hsend'
      · exact absurd hsend (hs.ownEnded _ ho q)
    · exact .inr (by rwa [hport.attached, hport.pending, hport.messagesDown])
  case send =>
    have hs' := (h.sends hc p q).1 hp
    rw [hlist]
    exact ⟨hs', hs.sendEntered p q hs'⟩
  case detached => exact hs.detachedEnded p ((h.port p).attached ▸ ha) q ((h.sends hc p q).1 hp)

/-- A change of one port's record that leaves its hold list: its staging, when no entry is the port's own, or what its
entries rest on. -/
theorem HoldsOk.portChanged (h : HoldsOk own s) (hlist : r.msg.holdList = (s.port p).msg.holdList)
    (hwords : wordsUsed r.msg.queue ≤ 32) (hstaged : r.msg.staging.length ≤ 6)
    (hkeep : s.NoEntry p ∨ r.msg.staging = (s.port p).msg.staging ∧ ∀ q, (s.port p).Holding q → r.Holding q)
    (hsend : ∀ q, r.bus.phase = .send q → (s.port p).bus.phase = .send q)
    (hdetached : r.attach.attached = false → ∀ q, r.bus.phase ≠ .send q) : HoldsOk own (setPort p r s) := by
  have hself := port_setPort_self p s r
  have hother : ∀ q, q ≠ p → (setPort p r s).port q = s.port q := fun q hq => port_setPort_ne p q s r hq
  have hlists : ∀ q, ((setPort p r s).port q).msg.holdList = (s.port q).msg.holdList := fun q => by
    rcases eq_or_ne q p with rfl | hq
    · rw [hself, hlist]
    · rw [hother q hq]
  refine h.of_sublist (fun q => by rw [hlists]) (fun q => ?words) (fun q => ?staged) (fun q e he => ?length)
    (fun q e he => ?held) (fun q d hq => ?send) fun q ha d => ?detached
  case words =>
    rcases eq_or_ne q p with rfl | hq
    · rwa [hself]
    · rw [hother q hq]; exact h.words q
  case staged =>
    rcases eq_or_ne q p with rfl | hq
    · rwa [hself]
    · rw [hother q hq]; exact h.staged q
  case length =>
    rw [hlists] at he
    by_cases hp : e.sender = p
    · rcases hkeep with hno | ⟨hst, -⟩
      · exact absurd hp (hno q e he)
      · rw [hp, hself, hst]
    · rw [hother _ hp]
  case held =>
    rw [hlists] at he
    have hhold := h.entryHeld q e he
    by_cases hp : e.sender = p
    · rcases hkeep with hno | ⟨-, hk⟩
      · exact absurd hp (hno q e he)
      · rw [hp] at hhold ⊢
        rw [hself]
        exact hk q hhold
    · rwa [hother _ hp]
  case send =>
    rw [hlists]
    have hs : (s.port q).bus.phase = .send d := by
      rcases eq_or_ne q p with rfl | hqp
      · rw [hself] at hq; exact hsend d hq
      · rwa [hother q hqp] at hq
    exact ⟨hs, h.sendEntered q d hs⟩
  case detached =>
    rcases eq_or_ne q p with rfl | hq
    · rw [hself] at ha ⊢; exact hdetached ha d
    · rw [hother q hq] at ha ⊢; exact h.detachedEnded q ha d

/-- A change of staging, queue and marker of a port that has no entry, or of its queue alone. -/
theorem HoldsOk.msgChanged (h : HoldsOk own s) {f : MessagePortRecord → MessagePortRecord}
    (hlist : (f (s.port p).msg).holdList = (s.port p).msg.holdList) (hwords : wordsUsed (f (s.port p).msg).queue ≤ 32)
    (hstaged : (f (s.port p).msg).staging.length ≤ 6)
    (hkeep : s.NoEntry p ∨ (f (s.port p).msg).staging = (s.port p).msg.staging) : HoldsOk own (modMsg p f s) :=
  h.portChanged hlist hwords hstaged (hkeep.imp_right fun hst => ⟨hst, fun _ => id⟩) (fun _ => id) (h.detachedEnded p)

/-! ### An admission -/

theorem words_insertMessage {m : Message} {opened : Bool} {ms : List Message} (hf : fits m.payload.length ms = true) :
    wordsUsed (insertMessage opened m ms) ≤ 32 := by
  rw [wordsUsed_insertMessage]
  rw [fits, decide_eq_true_iff, Config.queueWords] at hf
  omega

theorem HoldsOk.admitMessage (h : HoldsOk own s) (hc : CyclesOk own s) {m : Message}
    (hf : fits m.payload.length (s.port q).msg.queue = true) : HoldsOk own (admitMessage q m s) :=
  (noMsg_setCause (own := own) _).holdsOk ((noLock_modMsg _).cyclesOk hc)
    (h.msgChanged rfl (words_insertMessage hf) (h.staged q) (.inr rfl))

/-! ### An entry leaves its list -/

/-- A sender with an entry on the list of `q` is held, if at all, for `q`. -/
theorem HoldsOk.phase_of_entry (h : HoldsOk own s) {e : HoldEntry} (he : e ∈ (s.port q).msg.holdList) {d : PortId}
    (hd : (s.port e.sender).bus.phase = .send d) : d = q := by
  obtain ⟨e', he', hs⟩ := h.sendEntered _ d hd
  exact h.entryOneList d q e' he' e he hs

theorem phase_heldEnded {d : PortId} {o : SendOutcome} {st : List Word} (h : ∀ d, r.bus.phase = .send d → d = q) :
    (r.heldEnded o q st).bus.phase ≠ .send d := by
  simp only [PortRecord.heldEnded]
  split
  · rw [phase_complete]; nofun
  next hne => exact fun hd => hne (h d hd ▸ hd)

/-- Before and behind an entry stand entries of other senders. -/
theorem HoldsOk.others (h : HoldsOk own s) {us vs : List HoldEntry} {e : HoldEntry}
    (hlist : (s.port q).msg.holdList = us ++ e :: vs) : ∀ x ∈ us ++ vs, x.sender ≠ e.sender := by
  intro x hx hxe
  have honce := h.entryOnce q
  rw [hlist, List.map_append, List.map_cons] at honce
  have hnot := List.nodup_middle.mp honce
  rw [← List.map_append, List.nodup_cons] at hnot
  exact hnot.1 (hxe ▸ List.mem_map_of_mem hx)

/-- The list of `q` becomes `es`, and port `p`, whose entry is gone, has the records `r`. -/
def State.entryEnded (s : State) (q : PortId) (es : List HoldEntry) (p : PortId) (r : PortRecord) : State :=
  setPort p r (setPort q { s.port q with msg := { (s.port q).msg with holdList := es } } s)

theorem port_entryEnded_sender (es : List HoldEntry) : (s.entryEnded q es p r).port p = r := port_setPort_self _ _ _

theorem port_entryEnded_dest (es : List HoldEntry) (h : p ≠ q) : (s.entryEnded q es p r).port q =
    { s.port q with msg := { (s.port q).msg with holdList := es } } := by
  rw [State.entryEnded, port_setPort_ne _ _ _ _ h.symm, port_setPort_self]

theorem port_entryEnded_other {d : PortId} (es : List HoldEntry) (hp : d ≠ p) (hq : d ≠ q) :
    (s.entryEnded q es p r).port d = s.port d := by
  rw [State.entryEnded, port_setPort_ne _ _ _ _ hp, port_setPort_ne _ _ _ _ hq]

/-- The entry of a port leaves the list of `q`, and with it what its sender has of it: the sender's cycle is held no
longer, and its staging may change. -/
theorem HoldsOk.entryLeaves (h : HoldsOk own s) {us vs : List HoldEntry} {e : HoldEntry}
    (hlist : (s.port q).msg.holdList = us ++ e :: vs) (hrec : r.msg.holdList = (s.port e.sender).msg.holdList)
    (hqueue : r.msg.queue = (s.port e.sender).msg.queue) (hstaged : r.msg.staging.length ≤ 6)
    (hsend : ∀ d, r.bus.phase ≠ .send d) : HoldsOk own (s.entryEnded q (us ++ vs) e.sender r) := by
  have hmem : e ∈ (s.port q).msg.holdList := by simp [hlist]
  have hne : e.sender ≠ q := h.entrySender q e hmem
  have hsender := port_entryEnded_sender (s := s) (p := e.sender) (q := q) (r := r) (us ++ vs)
  have hdest := port_entryEnded_dest (s := s) (r := r) (us ++ vs) hne
  have hother := fun d => port_entryEnded_other (s := s) (p := e.sender) (q := q) (r := r) (d := d) (us ++ vs)
  generalize s.entryEnded q (us ++ vs) e.sender r = t at hsender hdest hother ⊢
  have hsub : ∀ d, (t.port d).msg.holdList.Sublist (s.port d).msg.holdList := fun d => by
    by_cases hd : d = e.sender
    · rw [hd, hsender, hrec]
    · by_cases hdq : d = q
      · rw [hdq, hdest, hlist]; exact (List.sublist_cons_self e vs).append_left us
      · rw [hother d hd hdq]
  -- an entry that stays is of another sender
  have hstays : ∀ d, ∀ x ∈ (t.port d).msg.holdList, x.sender ≠ e.sender := by
    intro d x hx hxe
    obtain rfl := h.entryOneList d q x ((hsub d).subset hx) e hmem hxe
    rw [hdest] at hx
    exact h.others hlist x hx hxe
  have hrecord : ∀ d, d ≠ e.sender → (t.port d).bus = (s.port d).bus ∧ (t.port d).attach = (s.port d).attach ∧
      (t.port d).msg.staging = (s.port d).msg.staging ∧ (t.port d).msg.queue = (s.port d).msg.queue := fun d hd => by
    by_cases hdq : d = q
    · subst hdq; rw [hdest]; exact ⟨rfl, rfl, rfl, rfl⟩
    · rw [hother d hd hdq]; exact ⟨rfl, rfl, rfl, rfl⟩
  refine h.of_sublist hsub (fun d => ?words) (fun d => ?staged) (fun d x hx => ?length) (fun d x hx => ?held)
    (fun d d' hd => ?send) fun d ha d' => ?detached
  case words =>
    by_cases hd : d = e.sender
    · rw [hd, hsender, hqueue]; exact h.words _
    · rw [(hrecord d hd).2.2.2]; exact h.words d
  case staged =>
    by_cases hd : d = e.sender
    · rwa [hd, hsender]
    · rw [(hrecord d hd).2.2.1]; exact h.staged d
  case length => rw [(hrecord _ (hstays d x hx)).2.2.1]
  case held =>
    obtain ⟨hbus, hattach, -⟩ := hrecord _ (hstays d x hx)
    rw [PortRecord.Holding, hbus, hattach]
    exact h.entryHeld d x ((hsub d).subset hx)
  case send =>
    by_cases hde : d = e.sender
    · rw [hde, hsender] at hd; exact absurd hd (hsend d')
    · rw [(hrecord d hde).1] at hd
      refine ⟨hd, ?_⟩
      obtain ⟨x, hx, hxd⟩ := h.sendEntered d d' hd
      refine ⟨x, ?_, hxd⟩
      by_cases hd'e : d' = e.sender
      · rw [hd'e, hsender, hrec, ← hd'e]; exact hx
      · by_cases hd'q : d' = q
        · subst hd'q
          rw [hdest]
          rw [hlist] at hx
          rcases List.mem_append.mp hx with hx | hx
          · exact List.mem_append_left vs hx
          · rcases List.mem_cons.mp hx with rfl | hx
            · exact absurd hxd.symm hde
            · exact List.mem_append_right us hx
        · rwa [hother d' hd'e hd'q]
  case detached =>
    by_cases hde : d = e.sender
    · rw [hde, hsender]; exact hsend d'
    · obtain ⟨hbus, hattach, -⟩ := hrecord d hde
      rw [hbus]
      exact h.detachedEnded d (hattach ▸ ha) d'

/-! ### The drain, and entries removed -/

/-- No hold list grows. -/
def ListsShrink (s t : State) : Prop := ∀ q, (t.port q).msg.holdList.Sublist (s.port q).msg.holdList

theorem ListsShrink.refl (s : State) : ListsShrink s s := fun _ => List.Sublist.refl _

theorem ListsShrink.trans {u : State} (h : ListsShrink s t) (h' : ListsShrink t u) : ListsShrink s u :=
  fun q => (h' q).trans (h q)

theorem ListsShrink.noEntry (h : ListsShrink s t) (hs : s.NoEntry p) : t.NoEntry p :=
  fun q e he => hs q e ((h q).subset he)

theorem listsShrink_setPort (h : r.msg.holdList.Sublist (s.port p).msg.holdList) : ListsShrink s (setPort p r s) := by
  intro q
  rcases eq_or_ne q p with rfl | hq
  · rwa [port_setPort_self]
  · rw [port_setPort_ne _ _ _ _ hq]

theorem listsShrink_entryEnded {us vs : List HoldEntry} {e : HoldEntry} (hlist : (s.port q).msg.holdList = us ++ e :: vs)
    (hne : p ≠ q) (hrec : r.msg.holdList = (s.port p).msg.holdList) : ListsShrink s (s.entryEnded q (us ++ vs) p r) := by
  refine (listsShrink_setPort (by rw [hlist]; exact (List.sublist_cons_self e vs).append_left us)).trans
    (listsShrink_setPort ?_)
  rw [port_setPort_ne _ _ _ _ hne, hrec]

/-- A send of the list of `q` that ends by an event of the part. -/
theorem noLock_entryEnded (es : List HoldEntry) (o : SendOutcome) (st : List Word) (hne : p ≠ q) :
    NoLock own s (s.entryEnded q es p ((s.port p).heldEnded o q st)) := by
  refine (noLock_modMsg (p := q) (fun m => { m with holdList := es })).trans (noLock_setPort ?_ ?_)
  all_goals rw [modMsg_eq, port_setPort_ne _ _ _ _ hne]
  · exact ⟨rfl, rfl, rfl, rfl, rfl, rfl⟩
  · by_cases hp : (s.port p).bus.phase = .send q
    · exact .inr (.inr ⟨q, hp⟩)
    · exact .inl (by rw [heldEnded_ended hp]; rfl)

/-- A drain that admits the head of the list: the message is admitted, then its entry ends. -/
theorem drain_ended {e : HoldEntry} {es : List HoldEntry} (hlist : (s.port q).msg.holdList = e :: es)
    (hf : fits e.length (s.port q).msg.queue = true) (hne : e.sender ≠ q) :
    drain q s = drain q ((admitMessage q (s.heldMessage e) s).entryEnded q es e.sender
      (((admitMessage q (s.heldMessage e) s).port e.sender).heldEnded .sent q [])) := by
  have hsender : (s.admitted q (s.heldMessage e)).port e.sender = s.port e.sender := port_setPort_ne _ _ _ _ hne
  rw [drain_admitted hlist hf hne, admitMessage_eq, hsender]
  simp only [State.entryEnded, State.admitted, port_setPort_self, setPort_setPort]

theorem listsShrink_admitMessage (m : Message) : ListsShrink s (admitMessage q m s) := by
  rw [admitMessage_eq]
  exact listsShrink_setPort (List.Sublist.refl _)

/-- A drain ends the sends it admits, and no list grows. -/
theorem drain_holdsOk (es : List HoldEntry) : ∀ s : State, (s.port q).msg.holdList = es → HoldsOk own s →
    CyclesOk own s → HoldsOk own (drain q s) ∧ ListsShrink s (drain q s) := by
  induction es with
  | nil => intro s hlist h _; rw [drain_empty q s hlist]; exact ⟨h, .refl s⟩
  | cons e es ih =>
    intro s hlist h hc
    have hmem : e ∈ (s.port q).msg.holdList := by simp [hlist]
    have hne := h.entrySender q e hmem
    cases hf : fits e.length (s.port q).msg.queue with
    | false => rw [drain_stops q s e es hlist hf]; exact ⟨h, .refl s⟩
    | true =>
      rw [drain_ended hlist hf hne]
      have hadmitted : HoldsOk own (admitMessage q (s.heldMessage e) s) :=
        h.admitMessage hc (by rw [State.heldMessage, ← h.entryLength q e hmem]; exact hf)
      have hlist' : ((admitMessage q (s.heldMessage e) s).port q).msg.holdList = [] ++ e :: es := by
        rw [admitMessage_eq, State.admitted, port_setPort_self]; exact hlist
      have hmem' : e ∈ ((admitMessage q (s.heldMessage e) s).port q).msg.holdList := by simp [hlist']
      have hleft := hadmitted.entryLeaves
        (r := ((admitMessage q (s.heldMessage e) s).port e.sender).heldEnded .sent q []) hlist' rfl rfl (Nat.zero_le _)
        fun d => phase_heldEnded fun d' hd => hadmitted.phase_of_entry hmem' hd
      have hcycles := ((noLock_admitMessage (q := q) (s.heldMessage e)).trans (noLock_entryEnded es .sent [] hne)).cyclesOk hc
      have hshrink := (listsShrink_admitMessage (s.heldMessage e)).trans (listsShrink_entryEnded
        (r := ((admitMessage q (s.heldMessage e) s).port e.sender).heldEnded .sent q []) hlist' hne rfl)
      obtain ⟨hend, hshrink'⟩ := ih _ (by rw [port_entryEnded_dest _ hne]; rfl) hleft hcycles
      exact ⟨hend, hshrink.trans hshrink'⟩

theorem HoldsOk.drain (h : HoldsOk own s) (hc : CyclesOk own s) : HoldsOk own (drain q s) :=
  (drain_holdsOk _ s rfl h hc).1

theorem HoldsOk.listsShrink_drain (h : HoldsOk own s) (hc : CyclesOk own s) : ListsShrink s (Machine.drain q s) :=
  (drain_holdsOk _ s rfl h hc).2

/-- The entry of a sender whose cycle has ended before is removed from the list of `q`. -/
theorem HoldsOk.removeEntry_shrinks (h : HoldsOk own s) (hc : CyclesOk own s) (hp : ∀ d, (s.port p).bus.phase ≠ .send d) :
    HoldsOk own (removeEntry q p s) ∧ ListsShrink s (removeEntry q p s) ∧
      ∀ e ∈ ((removeEntry q p s).port q).msg.holdList, e.sender ≠ p := by
  by_cases hno : ∀ e ∈ (s.port q).msg.holdList, e.sender ≠ p
  · rw [removeEntry_none hno]; exact ⟨h, .refl s, hno⟩
  · push Not at hno
    obtain ⟨e, he, rfl⟩ := hno
    have hne := h.entrySender q e he
    obtain ⟨us, vs, hlist⟩ := List.append_of_mem he
    have hothers := h.others hlist
    have hleft : setPort q { s.port q with msg := { (s.port q).msg with holdList := us ++ vs } } s =
        s.entryEnded q (us ++ vs) e.sender (s.port e.sender) := by
      rw [State.entryEnded]
      conv_rhs => rw [← port_setPort_ne q e.sender s _ hne, setPort_port]
    have hok := h.entryLeaves (r := s.port e.sender) hlist rfl rfl (h.staged _) hp
    have hcycles := (noLock_modMsg (own := own) (p := q) (fun m => { m with holdList := us ++ vs })).cyclesOk hc
    have hshrink := listsShrink_entryEnded (r := s.port e.sender) hlist hne rfl
    rw [modMsg_eq] at hcycles
    rw [← hleft] at hok hshrink
    have hgone : ∀ x ∈ ((setPort q { s.port q with
        msg := { (s.port q).msg with holdList := us ++ vs } } s).port q).msg.holdList, x.sender ≠ e.sender := by rw [port_setPort_self]; exact hothers
    rw [removeEntry_only hlist rfl hothers]
    split
    · have hd := hok.listsShrink_drain (q := q) hcycles
      exact ⟨hok.drain hcycles, hshrink.trans hd, fun x hx => hgone x ((hd q).subset hx)⟩
    · exact ⟨hok, hshrink, hgone⟩

/-! ### Hold expiry -/

theorem HoldsOk.expireHold (h : HoldsOk own s) (hc : CyclesOk own s) : HoldsOk own (expireHold q p s) := by
  by_cases hno : ∀ e ∈ (s.port q).msg.holdList, e.sender = p → e.hold ≠ .due
  · rwa [expireHold_none hno]
  · push Not at hno
    obtain ⟨e, he, rfl, hdue⟩ := hno
    have hne := h.entrySender q e he
    obtain ⟨us, vs, hlist⟩ := List.append_of_mem he
    have hothers := h.others hlist
    have hleft : ∀ r : PortRecord, setPort q { (setPort e.sender r s).port q with
        msg := { ((setPort e.sender r s).port q).msg with holdList := us ++ vs } } (setPort e.sender r s) =
        s.entryEnded q (us ++ vs) e.sender r := fun r => by
      rw [State.entryEnded, port_setPort_ne _ _ _ _ hne.symm, setPort_comm _ _ _ _ _ hne]
    have hok := h.entryLeaves (r := (s.port e.sender).heldEnded .full q (s.port e.sender).msg.staging) hlist rfl rfl
      (h.staged _) fun d => phase_heldEnded fun d' hd => h.phase_of_entry he hd
    rw [expireHold_due hne hlist rfl hothers hdue rfl, hleft]
    split
    · exact hok.drain ((noLock_entryEnded _ _ _ hne).cyclesOk hc)
    · exact hok

end Sys2Proof.Machine
end

section
/-! The events of the message unit keep its invariant, and with those of the lock table every step does. -/

namespace Sys2Proof.Machine

variable {p q : PortId} {l : LockId} {s t : State} {own : Option PortId} {r r' : PortRecord} {w : Word}

/-! ### The message unit's teardown -/

theorem heldEnded_heldEnded (o : SendOutcome) (st : List Word) :
    (r.heldEnded o q st).heldEnded o q st = r.heldEnded o q st := by
  by_cases hp : r.bus.phase = .send q
  · rw [heldEnded_ended (r := r.heldEnded o q st) (by simp [PortRecord.heldEnded, hp])]
    rfl
  · rw [heldEnded_ended hp, heldEnded_ended (r := r.sendEnded o q st) hp]
    rfl

theorem endSendDetached_eq (e : HoldEntry) : endSendDetached p s e =
    setPort e.sender ((s.port e.sender).heldEnded .detached p (s.port e.sender).msg.staging) s :=
  finishSend_setSendResult .detached

/-- The sends on a list end together, each at its sender. -/
theorem port_endSendsDetached (es : List HoldEntry) : ∀ s : State, (es.foldl (endSendDetached p) s).port q =
    if ∃ e ∈ es, e.sender = q then (s.port q).heldEnded .detached p (s.port q).msg.staging else s.port q := by
  induction es with
  | nil => simp
  | cons e es ih =>
    intro s
    rw [List.foldl_cons, ih, endSendDetached_eq]
    simp only [List.mem_cons, exists_eq_or_imp]
    by_cases he : e.sender = q
    · subst he
      rw [port_setPort_self, if_pos (Or.inl rfl)]
      split
      · exact heldEnded_heldEnded _ _
      · rfl
    · rw [port_setPort_ne _ _ _ _ (Ne.symm he)]
      simp only [he, false_or]

/-- The state in which the sends on the list of `p` have ended and its queue and list are empty (R140). -/
def State.listEnded (s : State) (p : PortId) : State :=
  modMsg p (fun r => { r with queue := [], opened := false, readIndex := 0, holdList := [] })
    ((s.port p).msg.holdList.foldl (endSendDetached p) s)

theorem port_listEnded_self (h : ∀ e ∈ (s.port p).msg.holdList, e.sender ≠ p) : (s.listEnded p).port p =
    { s.port p with msg := { (s.port p).msg with queue := [], opened := false, readIndex := 0, holdList := [] } } := by
  rw [State.listEnded, modMsg_eq, port_setPort_self, port_endSendsDetached, if_neg (by simpa using h)]

theorem port_listEnded_ne (hq : q ≠ p) : (s.listEnded p).port q =
    if ∃ e ∈ (s.port p).msg.holdList, e.sender = q then (s.port q).heldEnded .detached p (s.port q).msg.staging
    else s.port q := by
  rw [State.listEnded, modMsg_eq, port_setPort_ne _ _ _ _ hq, port_endSendsDetached]

theorem noLock_listEnded : NoLock own s (s.listEnded p) :=
  (foldl_noLock (f := endSendDetached p) (fun _ _ => (noLock_modMsg _).trans noLock_finishSend) _ s).trans (noLock_modMsg _)

theorem HoldsOk.listEnded (h : HoldsOk own s) : HoldsOk own (s.listEnded p) := by
  have hself := port_listEnded_self (h.entrySender p)
  have hother := fun q (hq : q ≠ p) => port_listEnded_ne (s := s) hq
  -- a port that is no sender on the list of `p` keeps its cycle, its attachment and its staging
  have hkept : ∀ q, (∀ e ∈ (s.port p).msg.holdList, e.sender ≠ q) → ((s.listEnded p).port q).bus = (s.port q).bus ∧
      ((s.listEnded p).port q).attach = (s.port q).attach := fun q hno => by
    rcases eq_or_ne q p with rfl | hq
    · rw [hself]; exact ⟨rfl, rfl⟩
    · rw [hother q hq, if_neg (by simpa using hno)]; exact ⟨rfl, rfl⟩
  have hmsg : ∀ q, q ≠ p → ((s.listEnded p).port q).msg.holdList = (s.port q).msg.holdList ∧
      ((s.listEnded p).port q).msg.queue = (s.port q).msg.queue := fun q hq => by
    rw [hother q hq]
    split <;> exact ⟨rfl, rfl⟩
  have hstaging : ∀ q, ((s.listEnded p).port q).msg.staging = (s.port q).msg.staging := fun q => by
    rcases eq_or_ne q p with rfl | hq
    · rw [hself]
    · rw [hother q hq]
      split <;> rfl
  have hempty : ((s.listEnded p).port p).msg.holdList = [] := by rw [hself]
  have hattached : ∀ q, ((s.listEnded p).port q).attach.attached = (s.port q).attach.attached := fun q =>
    (noLock_listEnded (own := own).port q).attached
  generalize s.listEnded p = t at hself hother hkept hmsg hstaging hempty hattached ⊢
  have hsend : ∀ q d, (t.port q).bus.phase = .send d → (s.port q).bus.phase = .send d ∧
      ∀ e ∈ (s.port p).msg.holdList, e.sender ≠ q := fun q d hq => by
    have hno : ∀ e ∈ (s.port p).msg.holdList, e.sender ≠ q := by
      rintro e he rfl
      rw [hother _ (h.entrySender p e he), if_pos ⟨e, he, rfl⟩] at hq
      exact phase_heldEnded (fun d' hd => h.phase_of_entry he hd) hq
    exact ⟨(hkept q hno).1 ▸ hq, hno⟩
  refine h.of_sublist (fun q => ?list) (fun q => ?words) (fun q => by rw [hstaging]; exact h.staged q)
    (fun q e _ => by rw [hstaging]) (fun q e he => ?held) (fun q d hq => ?send)
    fun q ha d hq => h.detachedEnded q (hattached q ▸ ha) d (hsend q d hq).1
  case list =>
    rcases eq_or_ne q p with rfl | hq
    · rw [hempty]; exact List.nil_sublist _
    · rw [(hmsg q hq).1]
  case words =>
    rcases eq_or_ne q p with rfl | hq
    · rw [hself]; exact Nat.zero_le _
    · rw [(hmsg q hq).2]; exact h.words q
  case held =>
    have hq : q ≠ p := by rintro rfl; rw [hempty] at he; cases he
    rw [(hmsg q hq).1] at he
    obtain ⟨hbus, hattach⟩ := hkept e.sender fun e' he' hs => hq (h.entryOneList p q e' he' e he hs).symm
    rw [PortRecord.Holding, hbus, hattach]
    exact h.entryHeld q e he
  case send =>
    obtain ⟨hs, hno⟩ := hsend q d hq
    obtain ⟨e, he, hes⟩ := h.sendEntered q d hs
    have hd : d ≠ p := by rintro rfl; exact hno e he hes
    exact ⟨hs, e, by rw [(hmsg d hd).1]; exact he, hes⟩

theorem listsShrink_modMsg {f : MessagePortRecord → MessagePortRecord}
    (hf : (f (s.port p).msg).holdList = (s.port p).msg.holdList) : ListsShrink s (modMsg p f s) :=
  listsShrink_setPort (by rw [hf])

/-- The removals of the own entries of `p`, over the lists in turn (R141). -/
theorem removeEntries_holdsOk (qs : List PortId) : ∀ s : State, HoldsOk own s → CyclesOk own s →
    (s.port p).attach.attached = false →
      HoldsOk own (qs.foldl (fun t q => if q ≠ p then removeEntry q p t else t) s) ∧
      ListsShrink s (qs.foldl (fun t q => if q ≠ p then removeEntry q p t else t) s) ∧
      ∀ q ∈ qs, q ≠ p → ∀ e ∈ ((qs.foldl (fun t q => if q ≠ p then removeEntry q p t else t) s).port q).msg.holdList,
        e.sender ≠ p := by
  induction qs with
  | nil => exact fun s h _ _ => ⟨h, .refl s, by simp⟩
  | cons d qs ih =>
    intro s h hc ha
    rw [List.foldl_cons]
    obtain ⟨hok, hshrink, hgone⟩ : HoldsOk own (if d ≠ p then removeEntry d p s else s) ∧
        ListsShrink s (if d ≠ p then removeEntry d p s else s) ∧
        (d ≠ p → ∀ e ∈ ((if d ≠ p then removeEntry d p s else s).port d).msg.holdList, e.sender ≠ p) := by
      split
      · obtain ⟨h1, h2, h3⟩ := h.removeEntry_shrinks (q := d) hc (h.detachedEnded p ha)
        exact ⟨h1, h2, fun _ => h3⟩
      next hd => exact ⟨h, .refl s, fun hd' => absurd hd' hd⟩
    have hno : NoLock own s (if d ≠ p then removeEntry d p s else s) := by
      split
      · exact noLock_removeEntry
      · exact .refl s
    obtain ⟨hend, hshrink', hgone'⟩ := ih _ hok (hno.cyclesOk hc) ((hno.port p).attached.trans ha)
    refine ⟨hend, hshrink.trans hshrink', fun q hq hqp => ?_⟩
    rcases List.mem_cons.mp hq with rfl | hq
    · exact fun e he => hgone hqp e ((hshrink' q).subset he)
    · exact hgone' q hq hqp

theorem HoldsOk.tearDownMessages (h : HoldsOk own s) (hc : CyclesOk own s) (ha : (s.port p).attach.attached = false) :
    HoldsOk own (tearDownMessages p s) := by
  obtain ⟨hok, hshrink, hgone⟩ := removeEntries_holdsOk allPorts (s.listEnded p) (h.listEnded (p := p))
    (noLock_listEnded.cyclesOk hc) (((noLock_listEnded (own := own) (p := p)).port p).attached.trans ha)
  have hno : State.NoEntry (allPorts.foldl (fun t q => if q ≠ p then removeEntry q p t else t) (s.listEnded p)) p := by
    intro q e he
    rcases eq_or_ne q p with rfl | hq
    · have := (hshrink q).subset he
      rw [port_listEnded_self (h.entrySender q)] at this
      cases this
    · exact hgone q (mem_allPorts q) hq e he
  have hreset := hok.msgChanged (p := p) (f := fun r => { r with staging := [], outcome := .none, dest := 0 }) rfl
    (hok.words p) (Nat.zero_le _) (.inl hno)
  refine hreset.portChanged rfl (hreset.words p) (hreset.staged p) (.inl ?_) (fun _ => id) (hreset.detachedEnded p)
  exact (listsShrink_modMsg rfl).noEntry hno

/-! ### The commands of a window -/

/-- What the window of an attached port starts from. -/
structure MsgReady (p : PortId) (s : State) : Prop where
  holds : HoldsOk (some p) s
  cycles : CyclesOk (some p) s
  attached : (s.port p).attach.attached = true

theorem MsgReady.noEntry (h : MsgReady p s) : s.NoEntry p :=
  h.holds.noEntry_of_attached h.attached (h.holds.ownEnded p rfl)

theorem Same.holdsOk (h : Same own s t) (hc : CyclesOk own s) (hs : HoldsOk own s) : HoldsOk own t := h.noMsg.holdsOk hc hs

/-- The end of a cycle after a change of the message records. -/
theorem HoldsOk.doneAfter (h : HoldsOk (some p) t) (hn : NoLock (some p) s t) (hc : CyclesOk (some p) s)
    (data : Option Word) : HoldsOk (some p) (done p data t) := (same_done data).holdsOk (hn.cyclesOk hc) h

theorem MsgReady.writeOutData (h : MsgReady p s) : HoldsOk (some p) (writeOutData p w s) := by
  unfold Machine.writeOutData
  split
  next hroom =>
    refine HoldsOk.doneAfter ?_ (noLock_modMsg _) h.cycles none
    refine h.holds.msgChanged rfl (h.holds.words p) ?_ (.inl h.noEntry)
    simp only [List.length_append, List.length_singleton]
    exact hroom
  next => exact (same_refuseCycle _ _ _ _).holdsOk h.cycles h.holds

theorem MsgReady.discardStaging (h : MsgReady p s) : HoldsOk (some p) (discardStaging p s) :=
  (h.holds.msgChanged (f := fun r => { r with staging := [] }) rfl (h.holds.words p) (Nat.zero_le _)
    (.inl h.noEntry)).doneAfter (noLock_modMsg _) h.cycles none

theorem MsgReady.popMessage (h : MsgReady p s) : HoldsOk (some p) (popMessage p s) := by
  unfold Machine.popMessage
  split
  · exact (same_done none).holdsOk h.cycles h.holds
  next m ms hqueue =>
    have hwords := h.holds.words p
    rw [hqueue, wordsUsed, List.map_cons, List.sum_cons] at hwords
    have hpopped := h.holds.msgChanged (p := p) (f := fun r => { r with queue := ms, opened := false, readIndex := 0 }) rfl
      (le_of_add_le_right hwords) (h.holds.staged p) (.inr rfl)
    exact (hpopped.drain ((noLock_modMsg _).cyclesOk h.cycles)).doneAfter ((noLock_modMsg _).trans noLock_drain) h.cycles none

theorem MsgReady.flushMessages (h : MsgReady p s) : HoldsOk (some p) (flushMessages p s) := by
  have hflushed := h.holds.msgChanged (p := p) (f := fun r => { r with queue := [], opened := false, readIndex := 0 }) rfl
    (Nat.zero_le _) (h.holds.staged p) (.inr rfl)
  exact (hflushed.drain ((noLock_modMsg _).cyclesOk h.cycles)).doneAfter ((noLock_modMsg _).trans noLock_drain) h.cycles none

theorem same_answerSend (o : SendOutcome) : Same (some p) s (answerSend p o q s) :=
  (same_modMsg rfl rfl rfl).trans (same_done none)

theorem holdSend_eq (h : p ≠ q) {cls : MsgClass} {tag : BitVec 8} : holdSend p q cls tag s =
    setPort p { s.port p with bus := { (s.port p).bus with phase := .send q } } (setPort q { s.port q with
      msg := { (s.port q).msg with holdList := (s.port q).msg.holdList ++
        [{ sender := p, cls := cls, tag := tag, length := (s.port p).msg.staging.length
           hold := Countdown.load s.holdLimit }] } } s) := by
  simp only [holdSend, modMsg_eq, modBus_eq, port_setPort_ne _ _ _ _ h]

/-- A held send joins the list of its destination; its port had no entry. -/
theorem MsgReady.holdSend (h : MsgReady p s) (hne : p ≠ q) {cls : MsgClass} {tag : BitVec 8} :
    HoldsOk none (holdSend p q cls tag s) := by
  have hno := h.noEntry
  have hok := h.holds
  rw [holdSend_eq hne]
  generalize hx : ({ sender := p, cls := cls, tag := tag, length := (s.port p).msg.staging.length
                     hold := Countdown.load s.holdLimit } : HoldEntry) = x
  have hxp : x.sender = p := by rw [← hx]
  have hxl : x.length = (s.port p).msg.staging.length := by rw [← hx]
  generalize ht : setPort p { s.port p with bus := { (s.port p).bus with phase := .send q } } (setPort q
    { s.port q with msg := { (s.port q).msg with holdList := (s.port q).msg.holdList ++ [x] } } s) = t
  have hp : t.port p = { s.port p with bus := { (s.port p).bus with phase := .send q } } := by
    rw [← ht, port_setPort_self]
  have hq : t.port q = { s.port q with msg := { (s.port q).msg with holdList := (s.port q).msg.holdList ++ [x] } } := by
    rw [← ht, port_setPort_ne _ _ _ _ hne.symm, port_setPort_self]
  have hother : ∀ d, d ≠ p → d ≠ q → t.port d = s.port d := fun d h1 h2 => by
    rw [← ht, port_setPort_ne _ _ _ _ h1, port_setPort_ne _ _ _ _ h2]
  have hphase : ∀ d, d ≠ p → (t.port d).bus = (s.port d).bus := fun d hd => by
    by_cases hdq : d = q
    · rw [hdq, hq]
    · rw [hother d hd hdq]
  have hsame : ∀ d, (t.port d).attach = (s.port d).attach ∧ (t.port d).msg.staging = (s.port d).msg.staging ∧
      (t.port d).msg.queue = (s.port d).msg.queue := fun d => by
    by_cases hdp : d = p
    · rw [hdp, hp]; exact ⟨rfl, rfl, rfl⟩
    · by_cases hdq : d = q
      · rw [hdq, hq]; exact ⟨rfl, rfl, rfl⟩
      · rw [hother d hdp hdq]; exact ⟨rfl, rfl, rfl⟩
  have hlist : ∀ d, d ≠ q → (t.port d).msg.holdList = (s.port d).msg.holdList := fun d hd => by
    by_cases hdp : d = p
    · rw [hdp, hp]
    · rw [hother d hdp hd]
  have hmem : ∀ d, ∀ e ∈ (t.port d).msg.holdList, e ∈ (s.port d).msg.holdList ∨ d = q ∧ e = x := fun d e he => by
    by_cases hd : d = q
    · subst hd
      rw [hq] at he
      exact (List.mem_append.mp he).imp_right fun h1 => ⟨rfl, List.mem_singleton.mp h1⟩
    · exact .inl (hlist d hd ▸ he)
  have hstays : ∀ d, ∀ e ∈ (s.port d).msg.holdList, e ∈ (t.port d).msg.holdList := fun d e he => by
    by_cases hd : d = q
    · subst hd; rw [hq]; exact List.mem_append_left _ he
    · rwa [hlist d hd]
  have hjoined : x ∈ (t.port q).msg.holdList := by rw [hq]; exact List.mem_append_right _ (List.mem_singleton.mpr rfl)
  refine ⟨fun d => by rw [(hsame d).2.2]; exact hok.words d, fun d => by rw [(hsame d).2.1]; exact hok.staged d,
    fun d e he => ?sender, fun d e he => ?length, fun d e he => ?held, fun d => ?once, fun c d hc => ?entered,
    fun d d' e he e' he' hee => ?oneList, fun d ha d' => ?detached, nofun⟩
  case sender =>
    rcases hmem d e he with he | ⟨rfl, rfl⟩
    · exact hok.entrySender d e he
    · rwa [hxp]
  case length =>
    rw [(hsame _).2.1]
    rcases hmem d e he with he | ⟨-, rfl⟩
    · exact hok.entryLength d e he
    · rw [hxl, hxp]
  case held =>
    rcases hmem d e he with he | ⟨rfl, rfl⟩
    · rw [PortRecord.Holding, hphase _ (hno d e he), (hsame _).1]
      exact hok.entryHeld d e he
    · rw [hxp, hp]; exact .inl rfl
  case once =>
    by_cases hd : d = q
    · subst hd
      rw [hq, List.map_append, List.map_singleton]
      refine List.nodup_append.mpr ⟨hok.entryOnce d, List.nodup_singleton _, fun a ha b hb => ?_⟩
      obtain ⟨e, he, rfl⟩ := List.mem_map.mp ha
      rw [List.mem_singleton.mp hb, hxp]
      exact hno d e he
    · rw [hlist d hd]; exact hok.entryOnce d
  case entered =>
    by_cases hcp : c = p
    · rw [hcp, hp] at hc
      obtain rfl : q = d := by injection hc
      exact ⟨x, hjoined, hxp.trans hcp.symm⟩
    · rw [hphase c hcp] at hc
      obtain ⟨e, he, hec⟩ := hok.sendEntered c d hc
      exact ⟨e, hstays d e he, hec⟩
  case oneList =>
    rcases hmem d e he with he | ⟨rfl, rfl⟩
    · rcases hmem d' e' he' with he' | ⟨rfl, rfl⟩
      · exact hok.entryOneList d d' e he e' he' hee
      · exact absurd (hee.trans hxp) (hno d e he)
    · rcases hmem d' e' he' with he' | ⟨rfl, rfl⟩
      · exact absurd (hee.symm.trans hxp) (hno d' e' he')
      · rfl
  case detached =>
    rw [(hsame d).1] at ha
    by_cases hdp : d = p
    · rw [hdp, h.attached] at ha; cases ha
    · rw [hphase d hdp]; exact hok.detachedEnded d ha d'

theorem MsgReady.sendMessage (h : MsgReady p s) {urgent hold : Bool} {tag : BitVec 8} :
    HoldsOk none (sendMessage p q urgent hold tag s) := by
  unfold Machine.sendMessage
  dsimp only
  split_ifs with hcounts hadmits hfull
  · exact ((same_answerSend _).holdsOk h.cycles h.holds).weaken
  · have hfits : fits (s.port p).msg.staging.length (s.port q).msg.queue = true := by
      simp only [State.admits, Bool.and_eq_true] at hadmits
      exact hadmits.2
    generalize hm : ({ sender := p, cls := classOf urgent, origin := .host, tag := tag
                       payload := (s.port p).msg.staging } : Message) = m
    have hadmitted : HoldsOk (some p) (Machine.admitMessage q m s) :=
      h.holds.admitMessage h.cycles (by rw [← hm]; exact hfits)
    have hemptied := hadmitted.msgChanged (p := p) (f := fun r => { r with staging := [] }) rfl (hadmitted.words p)
      (Nat.zero_le _) (.inl ((listsShrink_admitMessage m).noEntry h.noEntry))
    exact ((same_answerSend _).holdsOk (((noLock_admitMessage m).trans (noLock_modMsg _)).cyclesOk h.cycles) hemptied).weaken
  · exact ((same_answerSend _).holdsOk h.cycles h.holds).weaken
  · exact h.holdSend fun hpq => by simp [hpq] at hfull

/-! ### Notices of the copy engine -/

theorem HoldsOk.postNotice (h : HoldsOk own s) (hc : CyclesOk own s) {j : Job} {final : JobState} {fk : JobFault} :
    HoldsOk own (postNotice j final fk s) := by
  unfold Machine.postNotice
  split
  · exact h
  next n _ =>
    split
    next hadmits =>
      have hfits : fits 2 (s.port n.port).msg.queue = true := by
        simp only [State.admits, Bool.and_eq_true] at hadmits
        exact hadmits.2
      exact (same_modCopy _).holdsOk ((noLock_admitMessage _).cyclesOk hc) (h.admitMessage hc hfits)
    next => exact (same_modCopy _).holdsOk hc h

theorem HoldsOk.endJob (h : HoldsOk own s) (hc : CyclesOk own s) {j : Job} {final : JobState} {fk : JobFault} :
    HoldsOk own (endJob j final fk s) :=
  (same_endJob_before.holdsOk hc h).postNotice (same_endJob_before.noLock.cyclesOk hc)

theorem HoldsOk.endJob_done (h : HoldsOk (some p) s) (hc : CyclesOk (some p) s) {j : Job} {final : JobState} {fk : JobFault} :
    HoldsOk (some p) (done p none (Machine.endJob j final fk s)) :=
  (h.endJob hc).doneAfter noLock_endJob hc none

theorem HoldsOk.cancelJob (h : HoldsOk (some p) s) (hc : CyclesOk (some p) s) : HoldsOk (some p) (cancelJob p s) := by
  unfold Machine.cancelJob
  split
  · exact (same_done none).holdsOk hc h
  next j js _ =>
    split
    · split
      · have hmark : Same (some p) s { s with jobs := { j with cancelMarked := true } :: js } := same_of_eq rfl rfl rfl
        exact (hmark.trans (same_done none)).holdsOk hc h
      · exact h.endJob_done hc
    · split
      · exact (same_done none).holdsOk hc h
      · exact h.endJob_done hc

theorem HoldsOk.faultJob (h : HoldsOk own s) (hc : CyclesOk own s) {j : Job} {x : AccessType} {addr : Word} {k : FaultKind}
    {fk : JobFault} {d : Option DescId} {m : Option LockId} : HoldsOk own (faultJob j x addr k fk d m s) :=
  ((same_offerFault _).holdsOk hc h).endJob ((same_offerFault _).noLock.cyclesOk hc)

theorem HoldsOk.sourceHalf (h : HoldsOk own s) (hc : CyclesOk own s) {j : Job} {i : Nat}
    (hnext : sourceHalf j i s = .next t) : HoldsOk own t := by
  have hrot : Same own s { s with rotation := .copyEngine } := same_of_eq rfl rfl rfl
  have hrot' := hrot.holdsOk hc h
  have hcycles := hrot.noLock.cyclesOk hc
  unfold Machine.sourceHalf at hnext
  dsimp only at hnext
  split at hnext
  · cases hnext
    refine Same.holdsOk (own := own) (s := s) ?_ hc h
    exact same_of_eq rfl rfl rfl
  · cases hnext
  · cases hnext; exact hrot'.faultJob hcycles
  · cases hnext; exact hrot'.faultJob hcycles

theorem HoldsOk.afterWord (h : HoldsOk own s) (hc : CyclesOk own s) {j : Job} {js : List Job} {i : Nat} :
    HoldsOk own (afterWord j js i s) := by
  have hjobs : Same own s { s with jobs := j :: js } := same_of_eq rfl rfl rfl
  have hjobs' := hjobs.holdsOk hc h
  have hcycles := hjobs.noLock.cyclesOk hc
  unfold Machine.afterWord
  dsimp only
  split_ifs
  · exact hjobs'.endJob hcycles
  · exact hjobs'.endJob hcycles
  · refine Same.holdsOk (own := own) (s := s) ?_ hc h
    exact same_of_eq rfl rfl rfl

theorem HoldsOk.destinationHalf (h : HoldsOk own s) (hc : CyclesOk own s) {j : Job} {js : List Job} {i : Nat}
    (hnext : destinationHalf j js i w s = .next t) : HoldsOk own t := by
  have hrot : Same own s { s with rotation := .copyEngine } := same_of_eq rfl rfl rfl
  have hput : Same own s (putWord (j.destinationAt i) w { s with rotation := .copyEngine }) := same_of_eq rfl rfl rfl
  have hrot' := hrot.holdsOk hc h
  have hcycles := hrot.noLock.cyclesOk hc
  unfold Machine.destinationHalf at hnext
  dsimp only at hnext
  split at hnext
  · cases hnext; exact (hput.holdsOk hc h).afterWord (hput.noLock.cyclesOk hc)
  · cases hnext
  · cases hnext; exact hrot'.faultJob hcycles
  · cases hnext; exact hrot'.faultJob hcycles

theorem MsgReady.messageEvent (h : MsgReady p s) {f : State → State} (hf : MessageEvent p f) : HoldsOk none (f s) := by
  cases hf with
  | outData w => exact h.writeOutData.weaken
  | send q urgent hold tag => exact h.sendMessage
  | discard => exact h.discardStaging.weaken
  | pop => exact h.popMessage.weaken
  | flush => exact h.flushMessages.weaken
  | copyCancel => exact (h.holds.cancelJob h.cycles).weaken

/-! ### Detach, reattach and the completion -/

theorem phase_detach (reason : DetachReason) (d : PortId) : (r.detach reason).bus.phase ≠ .send d := by
  simp only [PortRecord.detach, Bus.detach]
  cases reason <;> cases hp : r.bus.phase <;> simp [Bus.toReset, hp]

/-- A detach leaves the port's entries, which its teardown is to remove. -/
theorem HoldsOk.detachPort (h : HoldsOk own s) (reason : DetachReason) : HoldsOk own (detachPort p reason s) :=
  h.portChanged rfl (h.words p) (h.staged p) (.inr ⟨rfl, fun _ _ => .inr ⟨rfl, rfl, rfl⟩⟩)
    (fun d hd => absurd hd (phase_detach reason d)) fun _ d => phase_detach reason d

theorem HoldsOk.detachCommand (h : HoldsOk (some p) s) (hc : CyclesOk (some p) s) :
    HoldsOk (some p) (detachCommand p q s) := by
  unfold Machine.detachCommand configWrite
  dsimp only
  split_ifs
  · exact (same_refuseCycle _ _ _ _).holdsOk hc h
  · exact (same_badValue _ _).holdsOk hc h
  · exact (same_done none).holdsOk (hc.detachPort _) (h.detachPort _)
  · exact (same_done none).holdsOk hc h

/-- A port whose teardown is complete has no entry, and reattaches. -/
theorem HoldsOk.reattach (h : HoldsOk own s) (hc : CyclesOk own s) (hno : s.NoEntry p) : HoldsOk own (reattach p s) := by
  have hattached : HoldsOk own (modAttach p (fun _ => AttachRecord.attachedNow) s) :=
    h.portChanged rfl (h.words p) (h.staged p) (.inl hno) (fun _ => id) nofun
  refine (same_peerChange (own := own)).holdsOk ?_ hattached
  exact hc.setPort ⟨(hc p).1.heldPhase, (hc p).1.requestPhase, nofun⟩ (hc p).2

theorem HoldsOk.noEntry_of_detached (h : HoldsOk own s) (ha : (s.port p).attach.attached = false)
    (hd : (s.port p).attach.pending = false ∨ (s.port p).attach.messagesDown = true) : s.NoEntry p := by
  refine h.noEntry fun q hq => hq.elim (h.detachedEnded p ha q) fun hq => ?_
  obtain ⟨-, hp, hm⟩ := hq
  rcases hd with hd | hd
  · simp [hp] at hd
  · simp [hm] at hd

theorem HoldsOk.detachedCycle (h : HoldsOk (some p) s) (hc : CyclesOk (some p) s)
    (ha : (s.port p).attach.attached = false) (c : BusCycle) : HoldsOk (some p) (detachedCycle p c s) := by
  unfold Machine.detachedCycle
  split
  · exact (same_completeCycle _ _).holdsOk hc h
  · split
    next hj =>
      have hno := h.noEntry_of_detached ha (.inl ((joinable_iff ha).mp hj.2.2).2)
      exact (same_completeCycle _ _).holdsOk hc.reattach (h.reattach hc hno)
    · exact (same_completeCycle _ _).holdsOk hc h

theorem HoldsOk.complete (h : HoldsOk none s) (hc : CyclesOk none s) (ha : (s.port p).attach.attached = false)
    (hm : (s.port p).attach.messagesDown = true) : HoldsOk none (complete p s) := by
  have hno := h.noEntry_of_detached ha (.inr hm)
  have hreset : HoldsOk none (modPort p PortRecord.toReset s) :=
    h.portChanged rfl (h.words p) (h.staged p) (.inl hno) (fun _ => id) fun _ => h.detachedEnded p ha
  have hcycles : CyclesOk none (modPort p PortRecord.toReset s) := hc.setPort_free ⟨rfl, rfl⟩
  have htold := same_peerChange (own := none) (p := p) (s := modPort p PortRecord.toReset s)
  unfold Machine.complete
  dsimp only
  split
  · refine (htold.holdsOk hcycles hreset).reattach (htold.noLock.cyclesOk hcycles) fun q e he => ?_
    rw [(htold.port q).holdList] at he
    exact (listsShrink_setPort (r := (s.port p).toReset) (List.Sublist.refl _)).noEntry hno q e he
  · exact htold.holdsOk hcycles hreset

end Sys2Proof.Machine
end

section
/-! Every step keeps the message unit in order, and cycles wait only behind open ones after it. -/

namespace Sys2Proof.Machine

variable {p q : PortId} {l : LockId} {s t u : State} {own : Option PortId} {r r' : PortRecord} {w : Word}

/-! ### The pins, the resets and the ticks -/

theorem HoldsOk.modPrst (h : HoldsOk own s) (b : Bool) : HoldsOk own (modPort p (fun r => { r with prst := b }) s) :=
  h.portChanged rfl (h.words p) (h.staged p) (.inr ⟨rfl, fun _ => id⟩) (fun _ => id) (h.detachedEnded p)

theorem HoldsOk.assertPin (h : HoldsOk none s) : HoldsOk none (assertPin p s) := by
  have hpin := h.modPrst (p := p) true
  unfold Machine.assertPin
  dsimp only
  split_ifs with hprst hn ha
  · exact h
  · exact hpin
  · exact hpin.detachPort _
  · have hreason : HoldsOk none (modAttach p (fun a => { a with reason := .pin })
        (modPort p (fun r => { r with prst := true }) s)) :=
      hpin.portChanged rfl (hpin.words p) (hpin.staged p) (.inr ⟨rfl, fun _ => id⟩) (fun _ => id) (hpin.detachedEnded p)
    have hattached : ((modAttach p (fun a => { a with reason := .pin })
        (modPort p (fun r => { r with prst := true }) s)).port p).attach.attached = false := by
      simpa only [modAttach_eq, modPort, port_setPort_self, Bool.not_eq_true] using ha
    exact hreason.portChanged rfl (hreason.words p) (hreason.staged p)
      (.inr ⟨rfl, fun q hq => .inr (hq.resolve_left (hreason.detachedEnded p hattached q))⟩) nofun fun _ => nofun

theorem HoldsOk.releasePin (h : HoldsOk none s) (hc : CyclesOk none s) : HoldsOk none (releasePin p s) := by
  have hpin := h.modPrst (p := p) false
  have hcycles : CyclesOk none (modPort p (fun r => { r with prst := false }) s) := (same_modPrst false).noLock.cyclesOk hc
  unfold Machine.releasePin
  dsimp only
  split
  next hok =>
    obtain ⟨-, -, hd, -, hpending⟩ := hok
    refine hpin.reattach hcycles (hpin.noEntry_of_detached ?_ (.inl ?_))
    · simpa only [modPort, port_setPort_self, Bool.not_eq_true] using hd
    · simpa only [modPort, port_setPort_self, Bool.not_eq_true] using hpending
  next => exact hpin

/-- Where the lists are empty and no send is held. -/
theorem holdsOk_of_empty (hwords : ∀ q, wordsUsed (s.port q).msg.queue ≤ 32)
    (hstaged : ∀ p, (s.port p).msg.staging.length ≤ 6) (hlist : ∀ q, (s.port q).msg.holdList = []) (hidle : ∀ p, (s.port p).bus.phase = .idle) : HoldsOk none s where
  words := hwords
  staged := hstaged
  entrySender q e he := by rw [hlist] at he; cases he
  entryLength q e he := by rw [hlist] at he; cases he
  entryHeld q e he := by rw [hlist] at he; cases he
  entryOnce q := by rw [hlist]; exact List.nodup_nil
  sendEntered p q h := by rw [hidle] at h; cases h
  entryOneList q q' e he := by rw [hlist] at he; cases he
  detachedEnded p _ q := by rw [hidle]; nofun
  ownEnded := nofun

theorem holdsOk_assertReset : HoldsOk none (assertReset s) :=
  holdsOk_of_empty (fun q => by rw [port_assertReset]; exact Nat.zero_le _)
    (fun p => by rw [port_assertReset]; exact Nat.zero_le _)
    (fun q => by rw [port_assertReset]; rfl) fun p => by rw [port_assertReset]; rfl

theorem HoldsOk.releaseReset (h : HoldsOk none s) (a b : Bool) (hn : s.nrst = true)
    (hquiet : ∀ q, (s.port q).msg.holdList = [] ∧ (s.port q).bus.phase = .idle) : HoldsOk none (releaseReset a b s) := by
  have hport : ∀ p, ((Machine.releaseReset a b s).port p).msg = (s.port p).msg ∧
      ((Machine.releaseReset a b s).port p).bus = (s.port p).bus := fun p => by
    rw [port_releaseReset a b hn, resetReleased_eq]; exact ⟨rfl, rfl⟩
  exact holdsOk_of_empty (fun q => by rw [(hport q).1]; exact h.words q) (fun p => by rw [(hport p).1]; exact h.staged p)
    (fun q => by rw [(hport q).1]; exact (hquiet q).1) fun p => by rw [(hport p).2]; exact (hquiet p).2

theorem HoldsOk.tickAll (h : HoldsOk own s) : HoldsOk own (tickAll s) := by
  have hrec : ∀ p, ((Machine.tickAll s).port p).bus = (s.port p).bus ∧
      ((Machine.tickAll s).port p).attach = (s.port p).attach ∧
      ((Machine.tickAll s).port p).msg.staging = (s.port p).msg.staging ∧
      ((Machine.tickAll s).port p).msg.queue = (s.port p).msg.queue := fun p => by
    rw [port_tickAll]; exact ⟨rfl, rfl, rfl, rfl⟩
  have hlist : ∀ q, ((Machine.tickAll s).port q).msg.holdList =
      (s.port q).msg.holdList.map fun e => { e with hold := e.hold.tick } := fun q => by rw [port_tickAll]; rfl
  have hmem : ∀ q, ∀ e ∈ ((Machine.tickAll s).port q).msg.holdList,
      ∃ e' ∈ (s.port q).msg.holdList, e'.sender = e.sender ∧ e'.length = e.length := fun q e he => by
    rw [hlist] at he
    obtain ⟨e', he', rfl⟩ := List.mem_map.mp he
    exact ⟨e', he', rfl, rfl⟩
  refine ⟨fun q => by rw [(hrec q).2.2.2]; exact h.words q, fun p => by rw [(hrec p).2.2.1]; exact h.staged p,
    fun q e he => ?sender, fun q e he => ?length, fun q e he => ?held, fun q => ?once, fun p q hp => ?entered,
    fun q q' e he e' he' hee => ?oneList, fun p ha => ?detached, fun p hp => by rw [(hrec p).1]; exact h.ownEnded p hp⟩
  case sender =>
    obtain ⟨e', he', hs, -⟩ := hmem q e he
    exact hs ▸ h.entrySender q e' he'
  case length =>
    obtain ⟨e', he', hs, hl⟩ := hmem q e he
    rw [← hl, ← hs, (hrec _).2.2.1]
    exact h.entryLength q e' he'
  case held =>
    obtain ⟨e', he', hs, -⟩ := hmem q e he
    rw [← hs, PortRecord.Holding, (hrec _).1, (hrec _).2.1]
    exact h.entryHeld q e' he'
  case once => rw [hlist, List.map_map]; exact h.entryOnce q
  case entered =>
    rw [(hrec p).1] at hp
    obtain ⟨e, he, hs⟩ := h.sendEntered p q hp
    exact ⟨{ e with hold := e.hold.tick }, by rw [hlist]; exact List.mem_map.mpr ⟨e, he, rfl⟩, hs⟩
  case oneList =>
    obtain ⟨x, hx, hxs, -⟩ := hmem q e he
    obtain ⟨x', hx', hxs', -⟩ := hmem q' e' he'
    exact h.entryOneList q q' x hx x' hx' (hxs.trans (hee.trans hxs'.symm))
  case detached =>
    rw [(hrec p).2.1] at ha
    rw [(hrec p).1]
    exact h.detachedEnded p ha

/-! ### Every step keeps the message unit -/

/-- The whole invariant of the message unit. -/
structure MsgInv (s : State) : Prop where
  holds : HoldsOk none s
  cycles : CyclesOk none s
  underReset : s.nrst = true → ∀ q, (s.port q).msg.holdList = [] ∧ (s.port q).bus.phase = .idle

theorem msgInv_iff : MsgInv s ↔ MessagesOk s := by
  constructor
  · rintro ⟨h, hc, hr⟩
    refine ⟨h.words, h.staged, h.entrySender, h.entryLength, h.entryHeld, h.entryOnce, h.sendEntered, h.entryOneList,
      fun p => (hc p).1.heldPhase, fun p => (hc p).1.requestPhase, fun p ha => ?_, hr⟩
    exact ⟨((hc p).1.detached ha).2, ((hc p).1.detached ha).1, h.detachedEnded p ha⟩
  · intro h
    refine ⟨⟨h.words, h.staged, h.entrySender, h.entryLength, h.entryHeld, h.entryOnce, h.sendEntered, h.entryOneList,
      fun p ha => (h.detachedEnded p ha).2.2, nofun⟩, fun p => ⟨⟨h.heldPhase p, h.requestPhase p, fun ha => ?_⟩, nofun⟩,
      h.underReset⟩
    exact ⟨(h.detachedEnded p ha).2.1, (h.detachedEnded p ha).1⟩

theorem msgInv_running (hn : t.nrst = false) (h : HoldsOk none t) (hc : CyclesOk none t) : MsgInv t :=
  ⟨h, hc, fun hr => by simp [hn] at hr⟩

theorem NoMsg.msgInv (h : NoMsg none s t) (hn : s.nrst = false) (hs : MsgInv s) : MsgInv t :=
  msgInv_running (h.nrst.trans hn) (h.holdsOk hs.cycles hs.holds) (h.cycles hs.cycles)

theorem Same.msgInv (h : Same none s t) (hs : MsgInv s) : MsgInv t where
  holds := h.holdsOk hs.cycles hs.holds
  cycles := h.noLock.cyclesOk hs.cycles
  underReset hr q := by
    obtain ⟨hlist, hidle⟩ := hs.underReset (h.nrst ▸ hr) q
    exact ⟨(h.port q).holdList.trans hlist, ((h.phase q).resolve_right nofun).trans hidle⟩

theorem MsgReady.lockEvent (h : MsgReady p s) {f : State → State} (hf : LockEvent p f) : HoldsOk none (f s) := by
  cases hf with
  | take l => exact (noMsg_lockTake.holdsOk h.cycles h.holds).weaken
  | wait l n => exact (noMsg_lockWait.holdsOk h.cycles h.holds).weaken
  | release l => exact (noMsg_lockRelease.holdsOk h.cycles h.holds).weaken
  | cancel l => exact (noMsg_lockCancel.holdsOk h.cycles h.holds).weaken
  | force l => exact (noMsg_lockForce.holdsOk h.cycles h.holds).weaken
  | lockCfg w => exact (noMsg_writeLockCfg.holdsOk h.cycles h.holds).weaken
  | request a =>
    simp only [requestStore, modEngine_eq, modBus_eq, port_setPort_self, setPort_setPort]
    exact h.holds.weaken.portChanged rfl (h.holds.words p) (h.holds.staged p) (.inl h.noEntry) nofun fun _ => nofun
  | leave => exact (((same_done none).holdsOk h.cycles h.holds).detachPort _).weaken
  | detach q => exact (h.holds.detachCommand h.cycles).weaken

/-- The window of an idle port begins its cycle. -/
theorem holdsOk_begin (h : HoldsOk none s) (hc : CyclesOk none s) (hi : (s.port p).bus.phase = .idle) :
    HoldsOk (some p) (modBus p (fun _ => Bus.begin) s) := by
  have hown : HoldsOk (some p) s :=
    { h with ownEnded := fun q hq d => by obtain rfl := Option.some.inj hq; rw [hi]; nofun }
  have hcycles : CyclesOk (some p) s := fun q => ⟨(hc q).1, fun hq => by
    obtain rfl := Option.some.inj hq
    exact (hc p).1.free (by simp [hi]) (by simp [hi])⟩
  exact same_begin.holdsOk hcycles hown

theorem windowKeeps_msgInv : WindowKeeps MsgInv where
  event {p f s} hf hr h := by
    have hready : MsgReady p (modBus p (fun _ => Bus.begin) s) :=
      ⟨holdsOk_begin h.holds h.cycles hr.idle,
        cyclesOk_begin h.cycles ((h.cycles p).1.free (by simp [hr.idle]) (by simp [hr.idle])),
        by rw [modBus_begin_eq, port_setPort_self]; exact hr.attached⟩
    have hn : (f (modBus p (fun _ => Bus.begin) s)).nrst = false :=
      (kept_begin.trans (kept_windowEvent hf)).nrst.trans hr.nrst
    rcases hf.kind with hl | hm | hsame
    · exact msgInv_running hn (hready.lockEvent hl) (hready.cycles.lockEvent hready.attached hl)
    · exact msgInv_running hn (hready.messageEvent hm) ((noLock_messageEvent hm).cyclesOk hready.cycles).weaken
    · exact msgInv_running hn ((hsame _).holdsOk hready.cycles hready.holds).weaken
        ((hsame _).noLock.cyclesOk hready.cycles).weaken
  detached {p s} c hr h := by
    obtain ⟨hreq, hheld⟩ := (h.cycles p).1.detached hr.detached
    have hcycles := cyclesOk_begin h.cycles ⟨hheld, hreq⟩
    have hholds := holdsOk_begin h.holds h.cycles hr.idle
    exact msgInv_running ((kept_begin.trans (kept_detachedCycle c)).nrst.trans hr.nrst)
      (hholds.detachedCycle hcycles (by rw [modBus_begin_eq, port_setPort_self]; exact hr.detached) c).weaken
      (hcycles.detachedCycle c).weaken
  waits c _ _ h := (same_modBus rfl).msgInv h
  strobes _ h := (same_modBus rfl).msgInv h

theorem Runs.msgInv (hruns : Runs s t) (h : MsgInv s) : MsgInv t := by
  have hw := windowKeeps_msgInv
  have hholds := h.holds
  have hcycles := h.cycles
  cases hruns with
  | window p c => exact hw.settle (hw.hostCycle c h)
  | nothing => exact h
  | noEvent => exact hw.settle h
  | tick hn => exact msgInv_running (kept_tickAll.nrst.trans hn) hholds.tickAll hcycles.tickAll
  | leaseExpiry l hn => exact hw.settle (noMsg_expireLease.msgInv hn h)
  | patienceExpiry l p hn => exact hw.settle (noMsg_expirePatience.msgInv hn h)
  | rotationGrant hn => exact hw.settle (noMsg_grantNext.msgInv hn h)
  | holdExpiry q p hn =>
    exact hw.settle
      (msgInv_running (kept_expireHold.nrst.trans hn) (hholds.expireHold hcycles) (noLock_expireHold.cyclesOk hcycles))
  | sourceRead hn hjobs hword hnext =>
    have hno : NoLock none s t := noLock_sourceHalf hnext
    exact msgInv_running (hno.nrst.trans hn) (hholds.sourceHalf hcycles hnext) (hno.cyclesOk hcycles)
  | destinationWrite hn hjobs hword hnext =>
    have hno : NoLock none s t := noLock_destinationHalf hnext
    exact msgInv_running (hno.nrst.trans hn) (hholds.destinationHalf hcycles hnext) (hno.cyclesOk hcycles)
  | pinAssert p =>
    cases hn : s.nrst with
    | true => exact (same_assertPin hn).msgInv h
    | false => exact msgInv_running (nrst_assertPin.trans hn) hholds.assertPin hcycles.assertPin
  | pinRelease p =>
    cases hn : s.nrst with
    | true => exact (same_releasePin hn).msgInv h
    | false => exact msgInv_running (nrst_releasePin.trans hn) (hholds.releasePin hcycles) hcycles.releasePin
  | withdrawal p htd hnot => exact noMsg_withdraw.msgInv htd.nrst h
  | releaseEvent p l htd hdone => exact hw.settle (noMsg_releaseHeld.msgInv htd.nrst h)
  | messageTeardown p htd hm =>
    exact hw.settle (msgInv_running (kept_tearDownMessages.nrst.trans htd.nrst)
      (hholds.tearDownMessages hcycles htd.detached) (noLock_tearDownMessages.cyclesOk hcycles))
  | copyTeardown p htd => exact (same_removeJob.trans (same_modAttach rfl rfl rfl rfl)).msgInv h
  | completion p htd hdown =>
    obtain ⟨-, -, hm, -⟩ := allDown_iff.mp hdown
    exact msgInv_running (kept_complete.nrst.trans htd.nrst) (hholds.complete hcycles htd.detached hm) hcycles.complete
  | deviceReset =>
    exact ⟨holdsOk_assertReset, cyclesOk_assertReset, fun _ p => by rw [port_assertReset]; exact ⟨rfl, rfl⟩⟩
  | resetRelease a b hn =>
    have hquiet := h.underReset hn
    refine msgInv_running (by simp [releaseReset, hn]) (hholds.releaseReset a b hn hquiet) ?_
    exact cyclesOk_releaseReset a b hn fun p => (hcycles p).1.free (by simp [(hquiet p).2]) (by simp [(hquiet p).2])
  | cycleEnd p => exact same_endCycle.msgInv h

/-! ### The cycles that wait -/

/-- The buses, the pins and nRST are as they were. -/
structure BusesKept (s t : State) : Prop where
  nrst : t.nrst = s.nrst
  bus : ∀ p, (t.port p).bus = (s.port p).bus
  prst : ∀ p, (t.port p).prst = (s.port p).prst

theorem BusesKept.refl (s : State) : BusesKept s s := ⟨rfl, fun _ => rfl, fun _ => rfl⟩

theorem BusesKept.trans (h : BusesKept s t) (h' : BusesKept t u) : BusesKept s u :=
  ⟨h'.nrst.trans h.nrst, fun p => (h'.bus p).trans (h.bus p), fun p => (h'.prst p).trans (h.prst p)⟩

theorem BusesKept.ok (h : BusesKept s t) (hs : WaitingCyclesOk s) : WaitingCyclesOk t := hs.congr h.nrst h.bus h.prst

theorem busesKept_of_ports (hp : t.ports = s.ports) (hn : t.nrst = s.nrst) : BusesKept s t :=
  ⟨hn, fun p => by rw [State.port, State.port, hp], fun p => by rw [State.port, State.port, hp]⟩

theorem busesKept_setPort (hb : r.bus = (s.port p).bus) (hp : r.prst = (s.port p).prst) : BusesKept s (setPort p r s) where
  nrst := rfl
  bus q := by
    rcases eq_or_ne q p with rfl | hq
    · rw [port_setPort_self, hb]
    · rw [port_setPort_ne _ _ _ _ hq]
  prst q := by
    rcases eq_or_ne q p with rfl | hq
    · rw [port_setPort_self, hp]
    · rw [port_setPort_ne _ _ _ _ hq]

theorem busesKept_modCopy (f : CopyPortRecord → CopyPortRecord) : BusesKept s (modCopy p f s) := busesKept_setPort rfl rfl
theorem busesKept_modIntr (f : InterruptRecord → InterruptRecord) : BusesKept s (modIntr p f s) := busesKept_setPort rfl rfl
theorem busesKept_modMsg (f : MessagePortRecord → MessagePortRecord) : BusesKept s (modMsg p f s) := busesKept_setPort rfl rfl
theorem busesKept_modAttach (f : AttachRecord → AttachRecord) : BusesKept s (modAttach p f s) := busesKept_setPort rfl rfl
theorem busesKept_setCause (c : Cause) : BusesKept s (setCause p c s) := busesKept_modIntr _
theorem busesKept_offerFault (f : FaultRecord) : BusesKept s (offerFault p f s) :=
  (busesKept_modIntr _).trans (busesKept_setCause _)

theorem busesKept_peerChange : BusesKept s (peerChange p s) := by
  refine ⟨kept_peerChange.nrst, fun q => ?_, fun q => ?_⟩
  all_goals
    rw [port_peerChange]
    split <;> rfl

theorem busesKept_reattach : BusesKept s (reattach p s) := (busesKept_modAttach _).trans busesKept_peerChange

theorem busesKept_removeJob : BusesKept s (removeJob p s) := by
  unfold removeJob
  split
  · exact .refl s
  · split <;> exact busesKept_of_ports rfl rfl

theorem busesKept_postNotice {j : Job} {final : JobState} {fk : JobFault} : BusesKept s (postNotice j final fk s) := by
  unfold postNotice
  split
  · exact .refl s
  · split
    · exact ((busesKept_modMsg _).trans (busesKept_setCause _)).trans (busesKept_modCopy _)
    · exact busesKept_modCopy _

theorem busesKept_endJob {j : Job} {final : JobState} {fk : JobFault} : BusesKept s (endJob j final fk s) :=
  ((busesKept_removeJob.trans (busesKept_modCopy _)).trans (busesKept_setCause _)).trans busesKept_postNotice

theorem busesKept_faultJob {j : Job} {x : AccessType} {addr : Word} {k : FaultKind} {fk : JobFault} {d : Option DescId}
    {m : Option LockId} : BusesKept s (faultJob j x addr k fk d m s) :=
  (busesKept_offerFault _).trans busesKept_endJob

theorem busesKept_sourceHalf {j : Job} {i : Nat} (h : sourceHalf j i s = .next t) : BusesKept s t := by
  have hrot : BusesKept s { s with rotation := .copyEngine } := busesKept_of_ports rfl rfl
  unfold sourceHalf at h
  dsimp only at h
  split at h
  · cases h; exact busesKept_of_ports rfl rfl
  · cases h
  · cases h; exact hrot.trans busesKept_faultJob
  · cases h; exact hrot.trans busesKept_faultJob

theorem busesKept_afterWord {j : Job} {js : List Job} {i : Nat} : BusesKept s (afterWord j js i s) := by
  have hjobs : BusesKept s { s with jobs := j :: js } := busesKept_of_ports rfl rfl
  unfold afterWord
  dsimp only
  split_ifs
  · exact hjobs.trans busesKept_endJob
  · exact hjobs.trans busesKept_endJob
  · exact busesKept_of_ports rfl rfl

theorem busesKept_destinationHalf {j : Job} {js : List Job} {i : Nat} (h : destinationHalf j js i w s = .next t) :
    BusesKept s t := by
  have hrot : BusesKept s { s with rotation := .copyEngine } := busesKept_of_ports rfl rfl
  have hput : BusesKept s (putWord (j.destinationAt i) w { s with rotation := .copyEngine }) := busesKept_of_ports rfl rfl
  unfold destinationHalf at h
  dsimp only at h
  split at h
  · cases h; exact hput.trans busesKept_afterWord
  · cases h
  · cases h; exact hrot.trans busesKept_faultJob
  · cases h; exact hrot.trans busesKept_faultJob

theorem busesKept_withdraw : BusesKept s (withdraw p s) := by
  unfold withdraw
  refine BusesKept.trans ?_ (busesKept_modAttach _)
  split
  · exact BusesKept.trans (t := removeWaiter _ p s) (busesKept_of_ports rfl rfl) (busesKept_setPort rfl rfl)
  · exact .refl s

theorem busesKept_complete : BusesKept s (complete p s) := by
  have hreset : BusesKept s (peerChange p (modPort p PortRecord.toReset s)) :=
    BusesKept.trans (t := modPort p PortRecord.toReset s) (busesKept_setPort rfl rfl) busesKept_peerChange
  unfold complete
  dsimp only
  split
  · exact hreset.trans busesKept_reattach
  · exact hreset

/-- One port changes, and no cycle waits there any more. -/
theorem WaitingCyclesOk.of_port (h : WaitingCyclesOk s) (hn : t.nrst = s.nrst) (hother : ∀ q, q ≠ p → t.port q = s.port q)
    (hp : (t.port p).bus.next = none) : WaitingCyclesOk t := by
  refine ⟨fun q hq => ?_, fun q hr => ?_⟩
  all_goals rcases eq_or_ne q p with rfl | hqp
  · simp [hp] at hq
  · rw [hother q hqp] at hq ⊢; exact h.behindOpen q hq
  · exact hp
  · rw [State.busInReset, hn, hother q hqp] at hr
    rw [hother q hqp]
    exact h.noneInReset q hr

/-- The end of a strobe drops the cycle that waits; without an open cycle none waits. -/
theorem WaitingCyclesOk.endCycle (h : WaitingCyclesOk s) : WaitingCyclesOk (modBus p Bus.endCycle s) := by
  cases hst : (s.port p).bus.strobe with
  | false =>
    have hsame : modBus p Bus.endCycle s = s := by
      rw [modBus_eq, endCycle_none hst]
      exact setPort_port p s
    rwa [hsame]
  | true =>
    refine h.of_port (p := p) rfl (fun q hq => port_setPort_ne _ _ _ _ hq) ?_
    rw [modBus_eq, port_setPort_self]
    by_cases hi : (s.port p).bus.phase = .idle
    · rw [endCycle_completed hst hi]
      by_contra hn
      exact (h.behindOpen p (Option.isSome_iff_ne_none.mpr hn)).2 hi
    · rw [endCycle_open hst hi]

theorem WaitingCyclesOk.assertPin (h : WaitingCyclesOk s) : WaitingCyclesOk (assertPin p s) := by
  unfold Machine.assertPin
  dsimp only
  split_ifs with hprst hn ha
  · exact h
  · refine h.of_port (p := p) rfl (fun q hq => port_setPort_ne _ _ _ _ hq) ?_
    rw [modPort, port_setPort_self]
    exact h.noneInReset p (by simp [State.busInReset, hn])
  · refine h.of_port (p := p) rfl (fun q hq => ?_) ?_
    · rw [detachPort, modPort, port_setPort_ne _ _ _ _ hq, modPort, port_setPort_ne _ _ _ _ hq]
    · rw [detachPort, modPort, port_setPort_self]; rfl
  · refine h.of_port (p := p) rfl (fun q hq => ?_) ?_
    · rw [modBus_eq, port_setPort_ne _ _ _ _ hq, modAttach_eq, port_setPort_ne _ _ _ _ hq, modPort,
        port_setPort_ne _ _ _ _ hq]
    · rw [modBus_eq, port_setPort_self]; rfl

/-- A bus in reset has no cycle waiting when the pin is released. -/
theorem WaitingCyclesOk.releasePin (h : WaitingCyclesOk s) : WaitingCyclesOk (releasePin p s) := by
  have hpin : WaitingCyclesOk (modPort p (fun r => { r with prst := false }) s) := by
    cases hr : s.busInReset p with
    | true =>
      refine h.of_port (p := p) rfl (fun q hq => port_setPort_ne _ _ _ _ hq) ?_
      rw [modPort, port_setPort_self]
      exact h.noneInReset p hr
    | false =>
      have hprst : (s.port p).prst = false := by
        simp only [State.busInReset, Bool.or_eq_false_iff] at hr
        exact hr.2
      have hbuses : BusesKept s (modPort p (fun r => { r with prst := false }) s) := busesKept_setPort rfl hprst.symm
      exact hbuses.ok h
  unfold Machine.releasePin
  dsimp only
  split
  · exact busesKept_reattach.ok hpin
  · exact hpin

theorem waitingCyclesOk_assertReset : WaitingCyclesOk (assertReset s) := by
  refine ⟨fun p hp => ?_, fun p _ => ?_⟩
  · rw [port_assertReset] at hp; cases hp
  · rw [port_assertReset]; rfl

theorem WaitingCyclesOk.releaseReset (h : WaitingCyclesOk s) (a b : Bool) (hn : s.nrst = true) :
    WaitingCyclesOk (releaseReset a b s) := by
  have hnone : ∀ p, ((Machine.releaseReset a b s).port p).bus.next = none := fun p => by
    rw [port_releaseReset a b hn, resetReleased_eq]
    exact h.noneInReset p (by simp [State.busInReset, hn])
  exact ⟨fun p hp => by simp [hnone p] at hp, fun p _ => hnone p⟩

theorem Runs.waitingCyclesOk (hruns : Runs s t) (h : WaitingCyclesOk s) : WaitingCyclesOk t := by
  have hstrobe := h.waitsUnderStrobe
  cases hruns with
  | window p c => exact waitingCyclesOk_settle (windowKeeps_waitsUnderStrobe.hostCycle c hstrobe)
  | nothing => exact h
  | noEvent => exact waitingCyclesOk_settle hstrobe
  | tick hn => exact h.congr rfl (fun p => by rw [port_tickAll]) fun p => by rw [port_tickAll]
  | leaseExpiry l hn => exact waitingCyclesOk_settle (kept_expireLease.waitsUnderStrobe hstrobe)
  | patienceExpiry l p hn => exact waitingCyclesOk_settle (kept_expirePatience.waitsUnderStrobe hstrobe)
  | rotationGrant hn => exact waitingCyclesOk_settle (kept_grantNext.waitsUnderStrobe hstrobe)
  | holdExpiry q p hn => exact waitingCyclesOk_settle (kept_expireHold.waitsUnderStrobe hstrobe)
  | sourceRead hn hjobs hword hnext => exact (busesKept_sourceHalf hnext).ok h
  | destinationWrite hn hjobs hword hnext => exact (busesKept_destinationHalf hnext).ok h
  | pinAssert p => exact h.assertPin
  | pinRelease p => exact h.releasePin
  | withdrawal p htd hnot => exact busesKept_withdraw.ok h
  | releaseEvent p l htd hdone => exact waitingCyclesOk_settle (kept_releaseHeld.waitsUnderStrobe hstrobe)
  | messageTeardown p htd hm => exact waitingCyclesOk_settle (kept_tearDownMessages.waitsUnderStrobe hstrobe)
  | copyTeardown p htd => exact (busesKept_removeJob.trans (busesKept_modAttach _)).ok h
  | completion p htd hdown => exact busesKept_complete.ok h
  | deviceReset => exact waitingCyclesOk_assertReset
  | resetRelease a b hn => exact h.releaseReset a b hn
  | cycleEnd p => exact h.endCycle

/-- Settles O59. -/
theorem messagesKept : Obligations.MessagesKept := by
  intro s t hstep
  rcases step_runs hstep with rfl | ⟨rest, hruns⟩
  · exact ⟨id, id⟩
  · have hrest : Same none s { s with pending := rest } := same_of_eq rfl rfl rfl
    have hbuses : BusesKept s { s with pending := rest } := busesKept_of_ports rfl rfl
    exact ⟨fun h => msgInv_iff.mp (hruns.msgInv (hrest.msgInv (msgInv_iff.mpr h))),
      fun h => hruns.waitingCyclesOk (hbuses.ok h)⟩

end Sys2Proof.Machine
end

section
/-! The message unit's teardown. What it ends on the port's own list lies apart from what a drain of another list touches,
so that the two can be taken in either order. -/

namespace Sys2Proof.Machine

variable {p q a : PortId} {s t : State} {r : PortRecord}

/-! ### The drain and what it leaves -/

theorem admitHeld_modPort {e : HoldEntry} (h : e.sender ≠ q) : admitHeld q e s =
    modPort e.sender (fun r => r.heldEnded .sent q []) (admitMessage q (s.heldMessage e) s) := by
  rw [admitHeld_eq h, admitMessage_eq, modPort]
  congr 2
  exact (port_setPort_ne _ _ _ _ h).symm

theorem admitMessage_modPort (m : Message) : admitMessage q m s = modPort q (fun r => { r with
    msg := { r.msg with queue := insertMessage r.msg.opened m r.msg.queue }
    intr := r.intr.raised (arrivalCause m.cls) }) s := by
  simp only [admitMessage, modMsg_eq, setCause_eq, port_setPort_self, setPort_setPort, modPort]
  rfl

/-- A drain reaches its own port and the senders on its list, and no other. -/
theorem port_drainEntries_other (es : List HoldEntry) : ∀ s : State, a ≠ q → (∀ e ∈ es, e.sender ≠ q ∧ e.sender ≠ a) →
    (drainEntries q es s).port a = s.port a := by
  induction es with
  | nil => exact fun s ha _ => port_setPort_ne _ _ _ _ ha
  | cons e es ih =>
    intro s ha hes
    obtain ⟨heq, hea⟩ := hes e (by simp)
    unfold drainEntries
    split
    · rw [ih _ ha fun x hx => hes x (List.mem_cons_of_mem _ hx), admitHeld_modPort heq, modPort,
        port_setPort_ne _ _ _ _ (Ne.symm hea), admitMessage_modPort, modPort, port_setPort_ne _ _ _ _ ha, modMsg_eq,
        port_setPort_ne _ _ _ _ ha]
    · exact port_setPort_ne _ _ _ _ ha

/-- The end of a send held on the list of `p`, at the sender's record. -/
def PortRecord.sendDetached (p : PortId) (r : PortRecord) : PortRecord := r.heldEnded .detached p r.msg.staging

theorem endSendDetached_modPort (e : HoldEntry) : endSendDetached p s e = modPort e.sender (PortRecord.sendDetached p) s :=
  endSendDetached_eq e

/-- A change at a port that is no sender on the list goes before or after a drain: at the drained port itself, when it is
the end of a send. -/
theorem drainEntries_modPort {g : PortRecord → PortRecord} (hg : a = q → g = PortRecord.sendDetached p)
    (es : List HoldEntry) : ∀ s : State, (∀ e ∈ es, e.sender ≠ q ∧ e.sender ≠ a) →
    drainEntries q es (modPort a g s) = modPort a g (drainEntries q es s) := by
  have hlist : ∀ (s : State) (xs : List HoldEntry), modMsg q (fun r => { r with holdList := xs }) (modPort a g s) =
      modPort a g (modMsg q (fun r => { r with holdList := xs }) s) := fun s xs =>
    modPort_comm (f := fun r => { r with msg := { r.msg with holdList := xs } }) fun h r => by rw [hg h.symm]; rfl
  induction es with
  | nil => exact fun s _ => hlist s []
  | cons e es ih =>
    intro s hes
    obtain ⟨heq, hea⟩ := hes e (by simp)
    have hqueue : ((modPort a g s).port q).msg.queue = (s.port q).msg.queue := by
      rcases eq_or_ne q a with rfl | hqa
      · rw [modPort, port_setPort_self, hg rfl]; rfl
      · rw [modPort, port_setPort_ne _ _ _ _ hqa]
    have hmessage : ∀ s : State, (modPort a g s).heldMessage e = s.heldMessage e := fun s => by
      rw [State.heldMessage, State.heldMessage, modPort, port_setPort_ne _ _ _ _ hea]
    have hadmit : ∀ s : State, admitHeld q e (modPort a g s) = modPort a g (admitHeld q e s) := fun s => by
      rw [admitHeld_modPort heq, admitHeld_modPort heq, hmessage, admitMessage_modPort, admitMessage_modPort,
        modPort_comm (a := q) (b := a) fun h r => by rw [hg h.symm]; rfl,
        modPort_comm (a := e.sender) (b := a) fun h => absurd h hea]
    unfold drainEntries
    rw [hqueue]
    split
    · rw [hlist, hadmit, ih _ fun x hx => hes x (List.mem_cons_of_mem _ hx)]
    · exact hlist s _

/-! ### The ends of the own list, and another list -/

/-- The clearing of the own queue and list (R140). -/
def MessagePortRecord.emptied (r : MessagePortRecord) : MessagePortRecord :=
  { r with queue := [], opened := false, readIndex := 0, holdList := [] }

theorem listEnded_eq : s.listEnded p =
    modMsg p MessagePortRecord.emptied ((s.port p).msg.holdList.foldl (endSendDetached p) s) := rfl

/-- An operation that goes before or after each end of a send on the list of `p`, and leaves that list, goes before or
after them all. -/
theorem listEnded_comm {f : State → State} (hlist : ((f s).port p).msg.holdList = (s.port p).msg.holdList)
    (hends : ∀ e ∈ (s.port p).msg.holdList, ∀ u : State, (u.port q).msg.holdList = (s.port q).msg.holdList →
      f (modPort e.sender (PortRecord.sendDetached p) u) = modPort e.sender (PortRecord.sendDetached p) (f u))
    (hemptied : ∀ u : State, (u.port q).msg.holdList = (s.port q).msg.holdList →
      f (modMsg p MessagePortRecord.emptied u) = modMsg p MessagePortRecord.emptied (f u)) :
    f (s.listEnded p) = (f s).listEnded p := by
  have hkeeps : ∀ (e : HoldEntry) (u : State),
      ((modPort e.sender (PortRecord.sendDetached p) u).port q).msg.holdList = (u.port q).msg.holdList := fun e u => by
    rcases eq_or_ne q e.sender with rfl | hq
    · rw [modPort, port_setPort_self]; rfl
    · rw [modPort, port_setPort_ne _ _ _ _ hq]
  have hfold : ∀ (es : List HoldEntry) (u : State), (∀ e ∈ es, e ∈ (s.port p).msg.holdList) →
      (u.port q).msg.holdList = (s.port q).msg.holdList →
      f (es.foldl (endSendDetached p) u) = es.foldl (endSendDetached p) (f u) ∧
        ((es.foldl (endSendDetached p) u).port q).msg.holdList = (s.port q).msg.holdList := by
    intro es
    induction es with
    | nil => exact fun u _ hu => ⟨rfl, hu⟩
    | cons e es ih =>
      intro u hes hu
      rw [List.foldl_cons, List.foldl_cons, endSendDetached_modPort, endSendDetached_modPort,
        ← hends e (hes e (by simp)) u hu]
      exact ih _ (fun x hx => hes x (List.mem_cons_of_mem _ hx)) ((hkeeps e u).trans hu)
  obtain ⟨hends', hlist'⟩ := hfold (s.port p).msg.holdList s (fun _ => id) rfl
  rw [listEnded_eq, listEnded_eq, hemptied _ hlist', hends', hlist]

/-- Another list may be replaced before or after. -/
theorem listEnded_setList (hq : q ≠ p) (es : List HoldEntry) :
    modMsg q (fun r => { r with holdList := es }) (s.listEnded p) =
      (modMsg q (fun r => { r with holdList := es }) s).listEnded p := by
  refine listEnded_comm (q := q) ?_ (fun e _ u _ => ?_) fun u _ => ?_
  · rw [modMsg_eq, port_setPort_ne _ _ _ _ hq.symm]
  · exact modPort_comm (f := fun r => { r with msg := { r.msg with holdList := es } }) fun _ _ => rfl
  · exact modPort_comm (f := fun r => { r with msg := { r.msg with holdList := es } }) fun h => absurd h hq

/-- Another list may be drained before or after, when no sender stands on both. -/
theorem listEnded_drain (hq : q ≠ p) (hes : ∀ e ∈ (s.port q).msg.holdList, e.sender ≠ q ∧ e.sender ≠ p)
    (happart : ∀ e ∈ (s.port q).msg.holdList, ∀ e' ∈ (s.port p).msg.holdList, e.sender ≠ e'.sender) :
    drain q (s.listEnded p) = (drain q s).listEnded p := by
  refine listEnded_comm (q := q) ?_ (fun e he u hu => ?_) fun u hu => ?_
  · rw [drain, port_drainEntries_other _ s hq.symm hes]
  · have hlist : ((modPort e.sender (PortRecord.sendDetached p) u).port q).msg.holdList = (s.port q).msg.holdList := by
      rw [← hu]
      rcases eq_or_ne q e.sender with rfl | hqe
      · rw [modPort, port_setPort_self]; rfl
      · rw [modPort, port_setPort_ne _ _ _ _ hqe]
    rw [drain_of_list hlist, drain_of_list hu]
    exact drainEntries_modPort (fun _ => rfl) _ u fun x hx => ⟨(hes x hx).1, happart x hx e he⟩
  · have hlist : ((modMsg p MessagePortRecord.emptied u).port q).msg.holdList = (s.port q).msg.holdList := by
      rw [← hu, modMsg_eq, port_setPort_ne _ _ _ _ hq]
    rw [drain_of_list hlist, drain_of_list hu]
    exact drainEntries_modPort (p := p) (fun h => absurd h hq.symm) _ u hes

/-! ### The own entries -/

/-- The state with the own entries of `p` removed has its records reset (R195). -/
def State.messagesReset (s : State) (p : PortId) : State :=
  modAttach p (fun a => { a with messagesDown := true })
    (modMsg p (fun r => { r with staging := [], outcome := .none, dest := 0 }) s)

theorem tearDownMessages_eq : tearDownMessages p s =
    (allPorts.foldl (fun t q => if q ≠ p then removeEntry q p t else t) (s.listEnded p)).messagesReset p := rfl

/-- A fold that acts at one element, and there once. -/
theorem foldl_once {α β : Type} {f : β → α → β} {b : β} {a : α} (hother : ∀ c, c ≠ a → f b c = b)
    (hdone : ∀ c, f (f b a) c = f b a) (as : List α) (ha : a ∈ as) : as.foldl f b = f b a := by
  induction as with
  | nil => cases ha
  | cons c as ih =>
    rw [List.foldl_cons]
    by_cases hc : c = a
    · rw [hc, List.foldl_fixed' hdone]
    · rw [hother c hc]
      exact ih ((List.mem_cons.mp ha).resolve_left (Ne.symm hc))

theorem noEntry_listEnded (h : s.NoEntry p) : (s.listEnded p).NoEntry p := by
  intro q e he
  rcases eq_or_ne q p with rfl | hq
  · rw [port_listEnded_self (h q)] at he; cases he
  · rw [port_listEnded_ne hq] at he
    split at he <;> exact h q e he

/-- Without an entry of the port the lists of the others stay. -/
theorem tearDownMessages_noEntry (h : s.NoEntry p) : tearDownMessages p s = (s.listEnded p).messagesReset p := by
  rw [tearDownMessages_eq, List.foldl_fixed' fun q => ?_]
  split
  · exact removeEntry_none (noEntry_listEnded h q)
  · rfl

theorem exec_messageUnitTeardown (h : TearingDown s p) (hm : (s.port p).attach.messagesDown = false) :
    exec (.messageUnitTeardown p) s = .next (settle (tearDownMessages p s)) :=
  congrArg (fun t => Host.Outcome.next (settle t)) (teardown_taken (tearDownMessages p) h (by simp [hm]))

/-- Once its only entry, on the list of `q`, is removed the port has none. -/
theorem HoldsOk.noEntry_removeEntry (h : HoldsOk none s) (hc : CyclesOk none s) (hd : (s.port p).attach.attached = false)
    (honly : ∀ d, d ≠ q → ∀ x ∈ (s.port d).msg.holdList, x.sender ≠ p) : (removeEntry q p s).NoEntry p := by
  obtain ⟨-, hshrink, hgone⟩ := h.removeEntry_shrinks (q := q) hc (h.detachedEnded p hd)
  intro d x hx
  rcases eq_or_ne d q with rfl | hdq
  · exact hgone x hx
  · exact honly d hdq x ((hshrink d).subset hx)

/-- The entry of `p` on the list of `q` may be removed before or after the ends of the sends on its own list. -/
theorem HoldsOk.removeEntry_listEnded (h : HoldsOk none s) {e : HoldEntry} {us vs : List HoldEntry}
    (hlist : (s.port q).msg.holdList = us ++ e :: vs) (he : e.sender = p) :
    removeEntry q p (s.listEnded p) = (removeEntry q p s).listEnded p := by
  have hmem : e ∈ (s.port q).msg.holdList := by simp [hlist]
  have hq : q ≠ p := fun hqp => h.entrySender q e hmem (he.trans hqp.symm)
  have hothers : ∀ x ∈ us ++ vs, x.sender ≠ p := he ▸ h.others hlist
  have hlist' : ((s.listEnded p).port q).msg.holdList = us ++ e :: vs := by
    rw [port_listEnded_ne hq, ← hlist]
    split <;> rfl
  rw [removeEntry_only hlist' he hothers, removeEntry_only hlist he hothers, ← modMsg_eq q (s.listEnded p)
    (fun r => { r with holdList := us ++ vs }), ← modMsg_eq q s (fun r => { r with holdList := us ++ vs }),
    listEnded_setList hq]
  split
  · have hleft : ((modMsg q (fun r => { r with holdList := us ++ vs }) s).port q).msg.holdList = us ++ vs := by
      rw [modMsg_eq, port_setPort_self]
    have hown : ((modMsg q (fun r => { r with holdList := us ++ vs }) s).port p).msg.holdList = (s.port p).msg.holdList := by
      rw [modMsg_eq, port_setPort_ne _ _ _ _ hq.symm]
    have hsub : ∀ x ∈ us ++ vs, x ∈ (s.port q).msg.holdList := fun x hx => by
      rw [hlist]
      exact ((List.sublist_cons_self e vs).append_left us).subset hx
    refine listEnded_drain hq (fun x hx => ?_) fun x hx y hy hxy => ?_
    · rw [hleft] at hx
      exact ⟨h.entrySender q x (hsub x hx), hothers x hx⟩
    · rw [hleft] at hx
      rw [hown] at hy
      exact hq (h.entryOneList q p x (hsub x hx) y hy hxy)
  · rfl

/-- The teardown of a port with an entry on the list of `q` is its teardown once that entry is removed. -/
theorem tearDownMessages_entry (h : MsgInv s) (hd : (s.port p).attach.attached = false) {e : HoldEntry}
    {us vs : List HoldEntry} (hlist : (s.port q).msg.holdList = us ++ e :: vs) (he : e.sender = p) :
    tearDownMessages p s = tearDownMessages p (removeEntry q p s) := by
  have hmem : e ∈ (s.port q).msg.holdList := by simp [hlist]
  have hq : q ≠ p := fun hqp => h.holds.entrySender q e hmem (he.trans hqp.symm)
  have honly : ∀ d, d ≠ q → ∀ x ∈ (s.port d).msg.holdList, x.sender ≠ p := fun d hdq x hx hxp =>
    hdq (h.holds.entryOneList d q x hx e hmem (hxp.trans he.symm))
  have hended : ∀ d, d ≠ q → ∀ x ∈ ((s.listEnded p).port d).msg.holdList, x.sender ≠ p := fun d hdq x hx => by
    rcases eq_or_ne d p with rfl | hdp
    · rw [port_listEnded_self (h.holds.entrySender d)] at hx; cases hx
    · rw [port_listEnded_ne hdp] at hx
      split at hx <;> exact honly d hdq x hx
  have hgone : ((removeEntry q p (s.listEnded p))).NoEntry p :=
    h.holds.listEnded.noEntry_removeEntry (noLock_listEnded.cyclesOk h.cycles)
      (((noLock_listEnded (own := none) (p := p)).port p).attached.trans hd) hended
  rw [tearDownMessages_noEntry (h.holds.noEntry_removeEntry h.cycles hd honly), tearDownMessages_eq,
    foldl_once (a := q) (fun d hdq => ?other) (fun d => ?once) allPorts (mem_allPorts q), if_pos hq,
    h.holds.removeEntry_listEnded hlist he]
  case other =>
    split
    · exact removeEntry_none (hended d hdq)
    · rfl
  case once =>
    rw [if_pos hq]
    split
    · exact removeEntry_none (hgone d)
    · rfl

/-- The removal of an entry leaves the records of its sender. -/
theorem HoldsOk.port_removeEntry (h : HoldsOk none s) {e : HoldEntry} {us vs : List HoldEntry}
    (hlist : (s.port q).msg.holdList = us ++ e :: vs) (he : e.sender = p) : (removeEntry q p s).port p = s.port p := by
  have hmem : e ∈ (s.port q).msg.holdList := by simp [hlist]
  have hq : p ≠ q := fun hpq => h.entrySender q e hmem (he.trans hpq)
  have hothers : ∀ x ∈ us ++ vs, x.sender ≠ p := he ▸ h.others hlist
  have hleft : ∀ r, (setPort q r s).port p = s.port p := fun r => port_setPort_ne _ _ _ _ hq
  rw [removeEntry_only hlist he hothers]
  split
  · rw [Machine.drain, port_drainEntries_other _ _ hq fun x hx => ?_, hleft]
    rw [port_setPort_self] at hx
    refine ⟨h.entrySender q x ?_, hothers x hx⟩
    rw [hlist]
    exact ((List.sublist_cons_self e vs).append_left us).subset hx
  · exact hleft _

theorem ports_endSendsDetached (es : List HoldEntry) : ∀ s : State,
    es.foldl (endSendDetached p) s = { s with ports := (es.foldl (endSendDetached p) s).ports } := by
  induction es with
  | nil => exact fun s => rfl
  | cons e es ih =>
    intro s
    rw [List.foldl_cons, ih, endSendDetached_eq]
    rfl

/-- Settles O49: without an own entry by the ends of the sends on the port's list, and otherwise by removing the entry
first. -/
theorem messageTeardown : Obligations.MessageTeardown := by
  intro p s h hm
  refine ⟨fun hno => ⟨tearDownMessages p s, exec_messageUnitTeardown h hm, ?ports, ?self, fun q hq => ?other⟩,
    fun hok q e us vs hlist he => ?entry⟩
  case ports =>
    rw [tearDownMessages_noEntry hno, State.messagesReset, State.listEnded, ports_endSendsDetached]
    rfl
  case self =>
    rw [tearDownMessages_noEntry hno, State.messagesReset, modAttach_eq, port_setPort_self, modMsg_eq, port_setPort_self,
      port_listEnded_self (hno p)]
    rfl
  case other =>
    rw [tearDownMessages_noEntry hno, State.messagesReset, modAttach_eq, port_setPort_ne _ _ _ _ hq, modMsg_eq,
      port_setPort_ne _ _ _ _ hq, port_listEnded_ne hq]
    rfl
  case entry =>
    have hinv := msgInv_iff.mpr hok
    have hothers : ∀ x ∈ us ++ vs, x.sender ≠ p := he ▸ hinv.holds.others hlist
    have hport := hinv.holds.port_removeEntry hlist he
    have hdown : TearingDown (removeEntry q p s) p :=
      ⟨kept_removeEntry.nrst.trans h.nrst, by rw [hport]; exact h.detached, by rw [hport]; exact h.pending⟩
    rw [exec_messageUnitTeardown h hm, tearDownMessages_entry hinv h.detached hlist he,
      ← exec_messageUnitTeardown hdown (by rw [hport]; exact hm), removeEntry_only hlist he hothers]

end Sys2Proof.Machine
end
